-- ==== Sys2Proof/Word.lean ====
section
/-! DEFINITION. The two word types of the core: bytes and 16-bit words (00_scope.md rules R5 and R8). -/
namespace Sys2Proof

/-- A byte: the width of A, X, Y, SP and of a memory cell (R5, R8). -/
abbrev Byte := BitVec 8

/-- A word: the width of PC and of an address (R5, R8). -/
abbrev Word := BitVec 16

end Sys2Proof
end

