-- ==== Sys2Proof/Config.lean ====
section
/-! DEFINITION. The parameters the spec leaves to the model (00_scope.md rule R6): LINKAGE and ZP_PTR_WRAP.
The third parameter, MEM0, is the memory that reset is applied to (Machine/Ops.lean, `State.applyReset`). -/
namespace Sys2Proof

/-- The parameter LINKAGE (R6, R200): what JSR and RTS do. -/
inductive Linkage where
  /-- RTS halts the engine and JSR pushes nothing. -/
  | halting
  /-- JSR pushes a return address and RTS pops it. -/
  | hardware
  deriving DecidableEq, Repr

/-- The parameters of R6 that are fixed for a machine. Every definition and every claim takes both values of each. -/
structure Config where
  /-- LINKAGE (R6, R200). -/
  linkage : Linkage
  /-- ZP_PTR_WRAP (R6, R114): the high byte of a zero-page pointer at 0x00FF comes from 0x0000 if true, from
  0x0100 if false. -/
  zpPtrWrap : Bool
  deriving DecidableEq, Repr

/-- The values R6 recommends: LINKAGE = halting, ZP_PTR_WRAP = false. -/
def Config.recommended : Config := { linkage := .halting, zpPtrWrap := false }

end Sys2Proof
end

