-- ==== Sys2Proof/Machine/Bytes.lean ====
section
/-! DEFINITION. Byte order and extension: how bytes and words turn into each other (00_scope.md rule R9, 20_memory.md R54). -/
namespace Sys2Proof.Machine

/-- `hi : lo`, the word whose high byte is `hi` and whose low byte is `lo` (R8, concatenation). -/
def mkWord (hi lo : Byte) : Word := BitVec.ofNat 16 (256 * hi.toNat + lo.toNat)

/-- Bits 7:0 of a word. -/
def loByte (w : Word) : Byte := w.setWidth 8

/-- Bits 15:8 of a word. -/
def hiByte (w : Word) : Byte := (w >>> 8).setWidth 8

/-- `zext_16` of R9: the byte as a word with high byte 0. -/
def zext16 (v : Byte) : Word := v.setWidth 16

/-- `sext_16` of R9: the byte as a word, its bit 7 copied into the high byte. -/
def sext16 (v : Byte) : Word := v.signExtend 16

end Sys2Proof.Machine
end

