-- ==== Sys2Proof/Machine/Memory.lean ====
section
/-! DEFINITION. The address space (20_memory.md rules R50 to R57): 65536 bytes held as a list of listed cells in one canonical
form, the byte port (`read`, `write`), its 16-bit forms, and the host's `loadProgram`. -/
namespace Sys2Proof.Machine

/-- The listed cells of the address space. An address that is not listed reads as `Memory.unlisted`. -/
abbrev Memory := List Host.Cell

/-- What an unlisted address reads as: the address space is "zero-initialized at creation" (R33, R263).
DESIGN CHOICE: log entry 1. -/
def Memory.unlisted : Byte := 0x00#8

/-- The canonical form, from address `lo` on: addresses strictly rising and below 65536, and no listed byte equal to
what an unlisted address reads as. -/
def Memory.wfFrom : Nat → Memory → Bool
  | _, [] => true
  | lo, (k, v) :: rest =>
    decide (lo ≤ k) && decide (k < 65536) && decide (v ≠ Memory.unlisted) && Memory.wfFrom (k + 1) rest

/-- The memory is in canonical form, so that equal memories are equal lists. -/
def Memory.wf (m : Memory) : Bool := Memory.wfFrom 0 m

/-- The byte at the key `k`. -/
def Memory.get : Memory → Nat → Byte
  | [], _ => Memory.unlisted
  | (k', v) :: rest, k => if k' = k then v else Memory.get rest k

/-- The memory with the key `k` no longer listed. -/
def Memory.erase : Memory → Nat → Memory
  | [], _ => []
  | (k', v) :: rest, k => if k' = k then Memory.erase rest k else (k', v) :: Memory.erase rest k

/-- The memory with the byte `v` listed at `k`, in its place. -/
def Memory.insert : Memory → Nat → Byte → Memory
  | [], k, v => [(k, v)]
  | (k', v') :: rest, k, v =>
    if k < k' then (k, v) :: (k', v') :: rest
    else if k' = k then (k, v) :: rest
    else (k', v') :: Memory.insert rest k v

/-- The memory with `v` at `k`: the entry goes when `v` is what an unlisted address reads as. -/
def Memory.set (m : Memory) (k : Nat) (v : Byte) : Memory :=
  if v = Memory.unlisted then m.erase k else m.insert k v

/-- `MemRead(addr, 1)`, the port's `read` (R9, R51). Every address answers (R52). -/
def Memory.read (m : Memory) (addr : Word) : Byte := m.get addr.toNat

/-- `MemWrite(addr, 1, v)`, the port's `write` (R9, R51). -/
def Memory.write (m : Memory) (addr : Word) (v : Byte) : Memory := m.set addr.toNat v

/-- `MemRead(addr, 2)`, the port's `read16`: low byte at `addr`, high byte at `addr + 1` modulo 65536 (R9, R54, R57). -/
def Memory.read16 (m : Memory) (addr : Word) : Word := mkWord (m.read (addr + 1)) (m.read addr)

/-- `MemWrite(addr, 2, v)`, the port's `write16`: low byte first (R9). No instruction uses it (R51). -/
def Memory.write16 (m : Memory) (addr : Word) (v : Word) : Memory :=
  (m.write addr (loByte v)).write (addr + 1) (hiByte v)

/-- The host's `loadProgram` (R51): byte `i` goes to `start + i` modulo 65536, in order. -/
def Memory.loadProgram : Memory → List Byte → Word → Memory
  | m, [], _ => m
  | m, b :: rest, start => Memory.loadProgram (m.write start b) rest (start + 1)

/-- The reset vector's address (R5, R61). -/
def resetVector : Word := 0xFFFC#16

/-- The caller's write of the load address into the reset vector, little-endian (R245, R264). -/
def Memory.setResetVector (m : Memory) (entry : Word) : Memory := m.write16 resetVector entry

end Sys2Proof.Machine
end

