-- ==== Sys2Proof/Machine/State.lean ====
section
/-! DEFINITION. The state of the core (10_state.md), the reasons a step can stop, and the state right after reset
(70_reset_and_hazards.md rules R260 and R261). -/
namespace Sys2Proof.Machine

/-- The seven status flags of P (R26). Bit 5 of the status byte has no storage (R27). -/
structure Flags where
  /-- N, mask 0x80: negative. -/
  n : Bool
  /-- V, mask 0x40: overflow. -/
  v : Bool
  /-- B, mask 0x10: break. -/
  b : Bool
  /-- D, mask 0x08: decimal, stored and never read by arithmetic (R30). -/
  d : Bool
  /-- I, mask 0x04: interrupt-disable, stored and without effect (R30, R235). -/
  i : Bool
  /-- Z, mask 0x02: zero. -/
  z : Bool
  /-- C, mask 0x01: carry. -/
  c : Bool
  deriving DecidableEq, Repr

/-- The kind of a diagnostic record (R32): only UnknownOpcode fills it. -/
inductive FaultKind where
  | unknownOpcode
  deriving DecidableEq, Repr

/-- The diagnostic record of R32: the kind, the failing byte, and the address it was fetched from. -/
structure FaultRecord where
  kind : FaultKind
  byte : Byte
  address : Word
  deriving DecidableEq, Repr

/-- The state of the core: all that the table of 10_state.md section 1 lists, and the parameters of R6 (`cfg`), which
are the model's own field (log entry 2). -/
structure State where
  /-- Accumulator (R20, R21). -/
  a : Byte
  /-- Index register X (R20, R22). -/
  x : Byte
  /-- Index register Y (R20, R22). -/
  y : Byte
  /-- Stack pointer, an offset into page 0x01 (R23). -/
  sp : Byte
  /-- Program counter (R24, R25). -/
  pc : Word
  /-- Status flags P (R26 to R30). -/
  p : Flags
  /-- The run state: true is halted (R31). -/
  halted : Bool
  /-- The diagnostic record, or none (R32). -/
  fault : Option FaultRecord
  /-- The address space (R33). -/
  mem : Memory
  /-- The parameters LINKAGE and ZP_PTR_WRAP (R6). Nothing writes them. -/
  cfg : Config
  deriving DecidableEq, Repr

/-- The reasons a step can stop with a fault. UnknownOpcode is not among them: it is a NEXT state, halted, with the
diagnostic record filled (R231). -/
inductive Fault where
  /-- The second entry of the error taxonomy (R230), "a build-time contract violation" that no memory contents can
  reach (R233). Nothing in the model raises it, so it is neither safe nor unsafe: it names what never happens. -/
  | unsupportedAddressingMode
  deriving DecidableEq, Repr

/-- The reasons a step can be refused. -/
inductive Refusal where
  /-- Raised by an arm of exec whose instruction has no meaning yet; safe. No arm of this model raises it. -/
  | notModelled (mnemonic : String)
  deriving DecidableEq, Repr

/-- The three outcomes of a step of this machine. -/
abbrev Result := Host.Outcome State Fault Refusal

/-- All seven flags 0: "status=0" (R28, R261). -/
def Flags.cleared : Flags :=
  { n := false, v := false, b := false, d := false, i := false, z := false, c := false }

/-- The machine right after reset (R260, R261), applied to a memory that lists nothing (log entry 1) under the
parameters R6 recommends (log entry 2). -/
def State.reset : State where
  a := 0x00#8
  x := 0x00#8
  y := 0x00#8
  sp := 0xFD#8
  pc := Memory.read16 [] resetVector
  p := Flags.cleared
  halted := false
  fault := none
  mem := []
  cfg := Config.recommended

end Sys2Proof.Machine
end

