-- ==== Sys2Proof/Machine/Flags.lean ====
section
/-! DEFINITION. Every flag computation of the spec: the Zero/Negative helper (R118), the status byte as read, pushed and pulled
(R27, R122, R123), the adder (R150), the compare core (R157) and the four shifts (R181 to R184). -/
namespace Sys2Proof.Machine

/-- `setZN(v)` (R118): Z is set iff the byte is 0, N iff its bit 7 is 1. -/
def Flags.setZN (p : Flags) (v : Byte) : Flags := { p with z := v == 0#8, n := v.getLsbD 7 }

/-- One flag as a byte with that flag's mask. -/
def flagMask (f : Bool) (mask : Byte) : Byte := if f then mask else 0#8

/-- `P_byte()` (R27): N V 1 B D I Z C, from bit 7 down to bit 0. -/
def Flags.toByte (p : Flags) : Byte :=
  flagMask p.n 0x80#8 ||| flagMask p.v 0x40#8 ||| 0x20#8 ||| flagMask p.b 0x10#8 ||| flagMask p.d 0x08#8
    ||| flagMask p.i 0x04#8 ||| flagMask p.z 0x02#8 ||| flagMask p.c 0x01#8

/-- The status byte as pushed (R122): `P_byte() OR 0x30`. -/
def Flags.pushed (p : Flags) : Byte := p.toByte ||| 0x30#8

/-- `setP(v)`, the flags of a pulled status byte (R123): B is cleared, bits 4 and 5 are ignored. -/
def Flags.ofPulled (v : Byte) : Flags :=
  { n := v.getLsbD 7, v := v.getLsbD 6, b := false, d := v.getLsbD 3, i := v.getLsbD 2, z := v.getLsbD 1,
    c := v.getLsbD 0 }

/-- What the adder answers: the result byte, the carry out and the overflow bit (R150). -/
structure Sum where
  result : Byte
  carry : Bool
  overflow : Bool
  deriving DecidableEq, Repr

/-- The overflow test of R150: both operands differ from the result in bit 7. -/
def addOverflow (a m r : Byte) : Bool := ((a ^^^ r) &&& (m ^^^ r) &&& 0x80#8) != 0#8

/-- `ADD8(a, m, c)` (R150): the 9-bit sum, narrowed. The D flag is not consulted (R30). -/
def add8 (a m : Byte) (c : Bool) : Sum :=
  let t := a.toNat + m.toNat + c.toNat
  let r := BitVec.ofNat 8 t
  { result := r, carry := decide (t > 255), overflow := addOverflow a m r }

/-- The flags of an add or subtract: C and V from the adder, Z and N from its result (R151, R152). -/
def Flags.ofSum (p : Flags) (r : Sum) : Flags :=
  { p with c := r.carry, v := r.overflow }.setZN r.result

/-- `CMP8(reg, M)` (R157): C is the unsigned comparison, Z and N come from the 8-bit difference. -/
def Flags.compare (p : Flags) (reg m : Byte) : Flags :=
  { p with c := decide (m.toNat ≤ reg.toNat) }.setZN (reg - m)

/-- BIT's flags (R156): Z from the conjunction, N and V from bits 7 and 6 of the operand. -/
def Flags.bitTest (p : Flags) (a m : Byte) : Flags :=
  { p with z := (a &&& m) == 0#8, n := m.getLsbD 7, v := m.getLsbD 6 }

/-- What a shift answers: the result byte and the bit shifted out (R180). -/
structure Shifted where
  result : Byte
  carry : Bool
  deriving DecidableEq, Repr

/-- A one-position shift or rotate: a function of the byte and the incoming carry (R180). -/
abbrev ShiftOp := Byte → Bool → Shifted

/-- ASL (R181): left by one, bit 0 is 0; the incoming carry is not read. -/
def aslOp : ShiftOp := fun v _ => { result := v <<< 1, carry := v.getLsbD 7 }

/-- LSR (R182): right by one, bit 7 is 0; the incoming carry is not read. -/
def lsrOp : ShiftOp := fun v _ => { result := v >>> 1, carry := v.getLsbD 0 }

/-- ROL (R183): left by one, bit 0 is the prior carry. -/
def rolOp : ShiftOp := fun v cin => { result := (v <<< 1) ||| flagMask cin 0x01#8, carry := v.getLsbD 7 }

/-- ROR (R184): right by one, bit 7 is the prior carry. -/
def rorOp : ShiftOp := fun v cin => { result := (v >>> 1) ||| flagMask cin 0x80#8, carry := v.getLsbD 0 }

/-- The flags of a shift: C is the bit shifted out, Z and N come from the result (R180). -/
def Flags.ofShift (p : Flags) (r : Shifted) : Flags := { p with c := r.carry }.setZN r.result

end Sys2Proof.Machine
end

