-- ==== Sys2Proof/Machine/Ops.lean ====
section
/-! DEFINITION. The named operations over registers, memory and the run state that the instruction meanings share: register
writes, the memory port, instruction fetch bytes, the stack (R120, R121), halting, raising UnknownOpcode (R231) with the
return from interrupt beside it (R224), and reset (R260). -/
namespace Sys2Proof.Machine

/-! ## Register writes -/

/-- `A <- v`. -/
def State.setA (s : State) (v : Byte) : State := { s with a := v }

/-- `X <- v`. -/
def State.setX (s : State) (v : Byte) : State := { s with x := v }

/-- `Y <- v`. -/
def State.setY (s : State) (v : Byte) : State := { s with y := v }

/-- `SP <- v`. -/
def State.setSp (s : State) (v : Byte) : State := { s with sp := v }

/-- `PC <- target`. -/
def State.setPc (s : State) (target : Word) : State := { s with pc := target }

/-- The flags as a whole. -/
def State.setFlags (s : State) (p : Flags) : State := { s with p := p }

/-- `setZN(v)` (R118) on the state: no other flag is written. -/
def State.setZN (s : State) (v : Byte) : State := s.setFlags (s.p.setZN v)

/-! ## The memory port -/

/-- `MemRead(addr, 1)`. -/
def State.readByte (s : State) (addr : Word) : Byte := s.mem.read addr

/-- `MemRead(addr, 2)`. -/
def State.readWord (s : State) (addr : Word) : Word := s.mem.read16 addr

/-- `MemWrite(addr, 1, v)`. -/
def State.writeByte (s : State) (addr : Word) (v : Byte) : State := { s with mem := s.mem.write addr v }

/-! ## Instruction bytes -/

/-- `fetch8()` (R9): the byte at PC, and PC advanced by one modulo 65536. -/
def State.fetch8 (s : State) : Byte × State := (s.readByte s.pc, s.setPc (s.pc + 1))

/-- `fetch16()` (R9): low byte, then high byte. -/
def State.fetch16 (s : State) : Word × State :=
  let (lo, s1) := s.fetch8
  let (hi, s2) := s1.fetch8
  (mkWord hi lo, s2)

/-! ## The stack -/

/-- The stack address that SP denotes: `0x0100 + SP` (R23). -/
def stackAddr (sp : Byte) : Word := 0x0100#16 + zext16 sp

/-- `push(v)` (R120): store, then decrement SP modulo 256. -/
def State.push (s : State) (v : Byte) : State := (s.writeByte (stackAddr s.sp) v).setSp (s.sp - 1)

/-- `pull()` (R121): increment SP modulo 256, then read. -/
def State.pull (s : State) : Byte × State :=
  (s.readByte (stackAddr (s.sp + 1)), s.setSp (s.sp + 1))

/-- Push a word, high byte first, so that it lies low byte at the lower address (R54, R201). -/
def State.pushWord (s : State) (w : Word) : State := (s.push (hiByte w)).push (loByte w)

/-- Pull a word, low byte first (R203, R224). -/
def State.pullWord (s : State) : Word × State :=
  let (lo, s1) := s.pull
  let (hi, s2) := s1.pull
  (mkWord hi lo, s2)

/-- `setP(pull())` (R123, R213). -/
def State.pullFlags (s : State) : State :=
  let (v, s1) := s.pull
  s1.setFlags (Flags.ofPulled v)

/-! ## Halting, the fatal condition, and the return from interrupt -/

/-- `halt()` (R9): the run state becomes halted, and all that was written is kept. -/
def State.halt (s : State) : State := { s with halted := true }

/-- `raise UnknownOpcode(op, a0)` (R231): halted, and the record holds the byte and its address. PC was advanced by the
opcode fetch already; nothing else is written, nothing is saved, no handler runs (R238). -/
def State.raiseUnknownOpcode (s : State) (op : Byte) (a0 : Word) : State :=
  { s with halted := true, fault := some { kind := .unknownOpcode, byte := op, address := a0 } }

/-- The return from interrupt (R224): the status as PLP pulls it, then PC low, then PC high, with no +1. It does not leave
the halted state (R240). -/
def State.returnFromInterrupt (s : State) : State :=
  let (target, s1) := s.pullFlags.pullWord
  s1.setPc target

/-! ## Reset and boot -/

/-- Reset, applied to any state (R260, R262): the registers, the flags, the run state and the record take their reset
values, PC is the word at the reset vector, and memory keeps what it holds. -/
def State.applyReset (s : State) : State :=
  { State.reset with pc := s.readWord resetVector, mem := s.mem, cfg := s.cfg }

/-- The boot sequence of R264 on a memory: load the program, point the reset vector at it, apply reset. -/
def State.boot (s : State) (program : List Byte) (start : Word) : State :=
  { s with mem := (s.mem.loadProgram program start).setResetVector start }.applyReset

end Sys2Proof.Machine
end

