-- ==== Sys2Proof/Syntax.lean ====
section
/-! DEFINITION. The syntax: the 56 mnemonics, the 13 operand forms (00_scope.md rule R11), operands, descriptors (R84), and
`Instr`, one constructor per row of spec/opcode_table.json (30_encoding.md rule R86), holding the row's operand bytes. -/
namespace Sys2Proof

/-- The 56 mnemonics of R86. -/
inductive Mnemonic where
  /-- add with carry (R151) -/
  | ADC
  /-- bitwise and (R153) -/
  | AND
  /-- arithmetic shift left (R181) -/
  | ASL
  /-- branch if carry clear (R191) -/
  | BCC
  /-- branch if carry set (R192) -/
  | BCS
  /-- branch if equal (R193) -/
  | BEQ
  /-- bit test (R156) -/
  | BIT
  /-- branch if minus (R195) -/
  | BMI
  /-- branch if not equal (R194) -/
  | BNE
  /-- branch if plus (R196) -/
  | BPL
  /-- break (R223) -/
  | BRK
  /-- branch if overflow clear (R197) -/
  | BVC
  /-- branch if overflow set (R198) -/
  | BVS
  /-- clear carry (R214) -/
  | CLC
  /-- clear decimal (R216) -/
  | CLD
  /-- clear interrupt-disable (R218) -/
  | CLI
  /-- clear overflow (R220) -/
  | CLV
  /-- compare with A (R158) -/
  | CMP
  /-- compare with X (R159) -/
  | CPX
  /-- compare with Y (R160) -/
  | CPY
  /-- decrement memory (R162) -/
  | DEC
  /-- decrement X (R165) -/
  | DEX
  /-- decrement Y (R166) -/
  | DEY
  /-- bitwise exclusive or (R155) -/
  | EOR
  /-- increment memory (R161) -/
  | INC
  /-- increment X (R163) -/
  | INX
  /-- increment Y (R164) -/
  | INY
  /-- jump (R199) -/
  | JMP
  /-- jump to subroutine (R201) -/
  | JSR
  /-- load accumulator (R130) -/
  | LDA
  /-- load X (R131) -/
  | LDX
  /-- load Y (R132) -/
  | LDY
  /-- logical shift right (R182) -/
  | LSR
  /-- no operation (R221) -/
  | NOP
  /-- bitwise inclusive or (R154) -/
  | ORA
  /-- push accumulator (R210) -/
  | PHA
  /-- push processor status (R211) -/
  | PHP
  /-- pull accumulator (R212) -/
  | PLA
  /-- pull processor status (R213) -/
  | PLP
  /-- rotate left (R183) -/
  | ROL
  /-- rotate right (R184) -/
  | ROR
  /-- return from interrupt (R224) -/
  | RTI
  /-- return from subroutine (R203) -/
  | RTS
  /-- subtract with borrow (R152) -/
  | SBC
  /-- set carry (R215) -/
  | SEC
  /-- set decimal (R217) -/
  | SED
  /-- set interrupt-disable (R219) -/
  | SEI
  /-- store accumulator (R133) -/
  | STA
  /-- store X (R134) -/
  | STX
  /-- store Y (R135) -/
  | STY
  /-- transfer A to X (R136) -/
  | TAX
  /-- transfer A to Y (R137) -/
  | TAY
  /-- transfer SP to X (R140) -/
  | TSX
  /-- transfer X to A (R138) -/
  | TXA
  /-- transfer X to SP (R141) -/
  | TXS
  /-- transfer Y to A (R139) -/
  | TYA
  deriving DecidableEq, Repr

/-- The 13 operand forms (format tags) of R11. -/
inductive Form where
  /-- implied (R104) -/
  | IMP
  /-- the accumulator form of ASL LSR ROL ROR (R105) -/
  | ACC
  /-- immediate (R106) -/
  | IMM
  /-- zero-page (R107) -/
  | ZP
  /-- zero-page-X (R108) -/
  | ZPX
  /-- zero-page-Y (R109) -/
  | ZPY
  /-- absolute (R110) -/
  | ABS
  /-- absolute-X (R111) -/
  | ABX
  /-- absolute-Y (R112) -/
  | ABY
  /-- indirect (R113) -/
  | IND
  /-- indirect-X (R114) -/
  | IZX
  /-- indirect-Y (R115) -/
  | IZY
  /-- relative, branches only (R116) -/
  | REL
  deriving DecidableEq, Repr

/-- The length in bytes of an instruction of a form (R81). -/
def Form.length : Form → Nat
  | .IMP | .ACC => 1
  | .IMM | .ZP | .ZPX | .ZPY | .IZX | .IZY | .REL => 2
  | .ABS | .ABX | .ABY | .IND => 3

/-- An operand as the instruction bytes give it (R83): a form with its raw byte or word. -/
inductive Operand where
  | imp
  | acc
  | imm (m : Byte)
  | zp (b : Byte)
  | zpx (b : Byte)
  | zpy (b : Byte)
  | abs (w : Word)
  | abx (w : Word)
  | aby (w : Word)
  | ind (w : Word)
  | izx (b : Byte)
  | izy (b : Byte)
  | rel (b : Byte)
  deriving DecidableEq, Repr

/-- The form of an operand. -/
def Operand.form : Operand → Form
  | .imp => .IMP
  | .acc => .ACC
  | .imm _ => .IMM
  | .zp _ => .ZP
  | .zpx _ => .ZPX
  | .zpy _ => .ZPY
  | .abs _ => .ABS
  | .abx _ => .ABX
  | .aby _ => .ABY
  | .ind _ => .IND
  | .izx _ => .IZX
  | .izy _ => .IZY
  | .rel _ => .REL

/-- One row of the opcode table: R84's record of mnemonic, opcode byte, addressing mode, byte length and base cycle count.
No rule reads the cycle count (R268). -/
structure Descriptor where
  mnemonic : Mnemonic
  opcode : Byte
  form : Form
  length : Nat
  baseCycles : Nat
  deriving DecidableEq, Repr

/-- The instructions: one constructor per row of the opcode table, named by mnemonic and form (the implied form has no
suffix), with the operand byte `b` or the little-endian operand word `w` (R82). -/
inductive Instr where
  | adcImm (b : Byte)
  | adcZp (b : Byte)
  | adcZpx (b : Byte)
  | adcAbs (w : Word)
  | adcAbx (w : Word)
  | adcAby (w : Word)
  | adcIzx (b : Byte)
  | adcIzy (b : Byte)
  | andImm (b : Byte)
  | andZp (b : Byte)
  | andZpx (b : Byte)
  | andAbs (w : Word)
  | andAbx (w : Word)
  | andAby (w : Word)
  | andIzx (b : Byte)
  | andIzy (b : Byte)
  | aslAcc
  | aslZp (b : Byte)
  | aslZpx (b : Byte)
  | aslAbs (w : Word)
  | aslAbx (w : Word)
  | bccRel (b : Byte)
  | bcsRel (b : Byte)
  | beqRel (b : Byte)
  | bitZp (b : Byte)
  | bitAbs (w : Word)
  | bmiRel (b : Byte)
  | bneRel (b : Byte)
  | bplRel (b : Byte)
  | brk
  | bvcRel (b : Byte)
  | bvsRel (b : Byte)
  | clc
  | cld
  | cli
  | clv
  | cmpImm (b : Byte)
  | cmpZp (b : Byte)
  | cmpZpx (b : Byte)
  | cmpAbs (w : Word)
  | cmpAbx (w : Word)
  | cmpAby (w : Word)
  | cmpIzx (b : Byte)
  | cmpIzy (b : Byte)
  | cpxImm (b : Byte)
  | cpxZp (b : Byte)
  | cpxAbs (w : Word)
  | cpyImm (b : Byte)
  | cpyZp (b : Byte)
  | cpyAbs (w : Word)
  | decZp (b : Byte)
  | decZpx (b : Byte)
  | decAbs (w : Word)
  | decAbx (w : Word)
  | dex
  | dey
  | eorImm (b : Byte)
  | eorZp (b : Byte)
  | eorZpx (b : Byte)
  | eorAbs (w : Word)
  | eorAbx (w : Word)
  | eorAby (w : Word)
  | eorIzx (b : Byte)
  | eorIzy (b : Byte)
  | incZp (b : Byte)
  | incZpx (b : Byte)
  | incAbs (w : Word)
  | incAbx (w : Word)
  | inx
  | iny
  | jmpAbs (w : Word)
  | jmpInd (w : Word)
  | jsrAbs (w : Word)
  | ldaImm (b : Byte)
  | ldaZp (b : Byte)
  | ldaZpx (b : Byte)
  | ldaAbs (w : Word)
  | ldaAbx (w : Word)
  | ldaAby (w : Word)
  | ldaIzx (b : Byte)
  | ldaIzy (b : Byte)
  | ldxImm (b : Byte)
  | ldxZp (b : Byte)
  | ldxZpy (b : Byte)
  | ldxAbs (w : Word)
  | ldxAby (w : Word)
  | ldyImm (b : Byte)
  | ldyZp (b : Byte)
  | ldyZpx (b : Byte)
  | ldyAbs (w : Word)
  | ldyAbx (w : Word)
  | lsrAcc
  | lsrZp (b : Byte)
  | lsrZpx (b : Byte)
  | lsrAbs (w : Word)
  | lsrAbx (w : Word)
  | nop
  | oraImm (b : Byte)
  | oraZp (b : Byte)
  | oraZpx (b : Byte)
  | oraAbs (w : Word)
  | oraAbx (w : Word)
  | oraAby (w : Word)
  | oraIzx (b : Byte)
  | oraIzy (b : Byte)
  | pha
  | php
  | pla
  | plp
  | rolAcc
  | rolZp (b : Byte)
  | rolZpx (b : Byte)
  | rolAbs (w : Word)
  | rolAbx (w : Word)
  | rorAcc
  | rorZp (b : Byte)
  | rorZpx (b : Byte)
  | rorAbs (w : Word)
  | rorAbx (w : Word)
  | rti
  | rts
  | sbcImm (b : Byte)
  | sbcZp (b : Byte)
  | sbcZpx (b : Byte)
  | sbcAbs (w : Word)
  | sbcAbx (w : Word)
  | sbcAby (w : Word)
  | sbcIzx (b : Byte)
  | sbcIzy (b : Byte)
  | sec
  | sed
  | sei
  | staZp (b : Byte)
  | staZpx (b : Byte)
  | staAbs (w : Word)
  | staAbx (w : Word)
  | staAby (w : Word)
  | staIzx (b : Byte)
  | staIzy (b : Byte)
  | stxZp (b : Byte)
  | stxZpy (b : Byte)
  | stxAbs (w : Word)
  | styZp (b : Byte)
  | styZpx (b : Byte)
  | styAbs (w : Word)
  | tax
  | tay
  | tsx
  | txa
  | txs
  | tya
  deriving DecidableEq, Repr

/-- The mnemonic of an instruction: its row's first column in R86. -/
def Instr.mnemonic : Instr → Mnemonic
  | .adcImm _ => .ADC
  | .adcZp _ => .ADC
  | .adcZpx _ => .ADC
  | .adcAbs _ => .ADC
  | .adcAbx _ => .ADC
  | .adcAby _ => .ADC
  | .adcIzx _ => .ADC
  | .adcIzy _ => .ADC
  | .andImm _ => .AND
  | .andZp _ => .AND
  | .andZpx _ => .AND
  | .andAbs _ => .AND
  | .andAbx _ => .AND
  | .andAby _ => .AND
  | .andIzx _ => .AND
  | .andIzy _ => .AND
  | .aslAcc => .ASL
  | .aslZp _ => .ASL
  | .aslZpx _ => .ASL
  | .aslAbs _ => .ASL
  | .aslAbx _ => .ASL
  | .bccRel _ => .BCC
  | .bcsRel _ => .BCS
  | .beqRel _ => .BEQ
  | .bitZp _ => .BIT
  | .bitAbs _ => .BIT
  | .bmiRel _ => .BMI
  | .bneRel _ => .BNE
  | .bplRel _ => .BPL
  | .brk => .BRK
  | .bvcRel _ => .BVC
  | .bvsRel _ => .BVS
  | .clc => .CLC
  | .cld => .CLD
  | .cli => .CLI
  | .clv => .CLV
  | .cmpImm _ => .CMP
  | .cmpZp _ => .CMP
  | .cmpZpx _ => .CMP
  | .cmpAbs _ => .CMP
  | .cmpAbx _ => .CMP
  | .cmpAby _ => .CMP
  | .cmpIzx _ => .CMP
  | .cmpIzy _ => .CMP
  | .cpxImm _ => .CPX
  | .cpxZp _ => .CPX
  | .cpxAbs _ => .CPX
  | .cpyImm _ => .CPY
  | .cpyZp _ => .CPY
  | .cpyAbs _ => .CPY
  | .decZp _ => .DEC
  | .decZpx _ => .DEC
  | .decAbs _ => .DEC
  | .decAbx _ => .DEC
  | .dex => .DEX
  | .dey => .DEY
  | .eorImm _ => .EOR
  | .eorZp _ => .EOR
  | .eorZpx _ => .EOR
  | .eorAbs _ => .EOR
  | .eorAbx _ => .EOR
  | .eorAby _ => .EOR
  | .eorIzx _ => .EOR
  | .eorIzy _ => .EOR
  | .incZp _ => .INC
  | .incZpx _ => .INC
  | .incAbs _ => .INC
  | .incAbx _ => .INC
  | .inx => .INX
  | .iny => .INY
  | .jmpAbs _ => .JMP
  | .jmpInd _ => .JMP
  | .jsrAbs _ => .JSR
  | .ldaImm _ => .LDA
  | .ldaZp _ => .LDA
  | .ldaZpx _ => .LDA
  | .ldaAbs _ => .LDA
  | .ldaAbx _ => .LDA
  | .ldaAby _ => .LDA
  | .ldaIzx _ => .LDA
  | .ldaIzy _ => .LDA
  | .ldxImm _ => .LDX
  | .ldxZp _ => .LDX
  | .ldxZpy _ => .LDX
  | .ldxAbs _ => .LDX
  | .ldxAby _ => .LDX
  | .ldyImm _ => .LDY
  | .ldyZp _ => .LDY
  | .ldyZpx _ => .LDY
  | .ldyAbs _ => .LDY
  | .ldyAbx _ => .LDY
  | .lsrAcc => .LSR
  | .lsrZp _ => .LSR
  | .lsrZpx _ => .LSR
  | .lsrAbs _ => .LSR
  | .lsrAbx _ => .LSR
  | .nop => .NOP
  | .oraImm _ => .ORA
  | .oraZp _ => .ORA
  | .oraZpx _ => .ORA
  | .oraAbs _ => .ORA
  | .oraAbx _ => .ORA
  | .oraAby _ => .ORA
  | .oraIzx _ => .ORA
  | .oraIzy _ => .ORA
  | .pha => .PHA
  | .php => .PHP
  | .pla => .PLA
  | .plp => .PLP
  | .rolAcc => .ROL
  | .rolZp _ => .ROL
  | .rolZpx _ => .ROL
  | .rolAbs _ => .ROL
  | .rolAbx _ => .ROL
  | .rorAcc => .ROR
  | .rorZp _ => .ROR
  | .rorZpx _ => .ROR
  | .rorAbs _ => .ROR
  | .rorAbx _ => .ROR
  | .rti => .RTI
  | .rts => .RTS
  | .sbcImm _ => .SBC
  | .sbcZp _ => .SBC
  | .sbcZpx _ => .SBC
  | .sbcAbs _ => .SBC
  | .sbcAbx _ => .SBC
  | .sbcAby _ => .SBC
  | .sbcIzx _ => .SBC
  | .sbcIzy _ => .SBC
  | .sec => .SEC
  | .sed => .SED
  | .sei => .SEI
  | .staZp _ => .STA
  | .staZpx _ => .STA
  | .staAbs _ => .STA
  | .staAbx _ => .STA
  | .staAby _ => .STA
  | .staIzx _ => .STA
  | .staIzy _ => .STA
  | .stxZp _ => .STX
  | .stxZpy _ => .STX
  | .stxAbs _ => .STX
  | .styZp _ => .STY
  | .styZpx _ => .STY
  | .styAbs _ => .STY
  | .tax => .TAX
  | .tay => .TAY
  | .tsx => .TSX
  | .txa => .TXA
  | .txs => .TXS
  | .tya => .TYA

/-- The operand of an instruction: its column in R86 with its raw bytes. -/
def Instr.operand : Instr → Operand
  | .adcImm b => .imm b
  | .adcZp b => .zp b
  | .adcZpx b => .zpx b
  | .adcAbs w => .abs w
  | .adcAbx w => .abx w
  | .adcAby w => .aby w
  | .adcIzx b => .izx b
  | .adcIzy b => .izy b
  | .andImm b => .imm b
  | .andZp b => .zp b
  | .andZpx b => .zpx b
  | .andAbs w => .abs w
  | .andAbx w => .abx w
  | .andAby w => .aby w
  | .andIzx b => .izx b
  | .andIzy b => .izy b
  | .aslAcc => .acc
  | .aslZp b => .zp b
  | .aslZpx b => .zpx b
  | .aslAbs w => .abs w
  | .aslAbx w => .abx w
  | .bccRel b => .rel b
  | .bcsRel b => .rel b
  | .beqRel b => .rel b
  | .bitZp b => .zp b
  | .bitAbs w => .abs w
  | .bmiRel b => .rel b
  | .bneRel b => .rel b
  | .bplRel b => .rel b
  | .brk => .imp
  | .bvcRel b => .rel b
  | .bvsRel b => .rel b
  | .clc => .imp
  | .cld => .imp
  | .cli => .imp
  | .clv => .imp
  | .cmpImm b => .imm b
  | .cmpZp b => .zp b
  | .cmpZpx b => .zpx b
  | .cmpAbs w => .abs w
  | .cmpAbx w => .abx w
  | .cmpAby w => .aby w
  | .cmpIzx b => .izx b
  | .cmpIzy b => .izy b
  | .cpxImm b => .imm b
  | .cpxZp b => .zp b
  | .cpxAbs w => .abs w
  | .cpyImm b => .imm b
  | .cpyZp b => .zp b
  | .cpyAbs w => .abs w
  | .decZp b => .zp b
  | .decZpx b => .zpx b
  | .decAbs w => .abs w
  | .decAbx w => .abx w
  | .dex => .imp
  | .dey => .imp
  | .eorImm b => .imm b
  | .eorZp b => .zp b
  | .eorZpx b => .zpx b
  | .eorAbs w => .abs w
  | .eorAbx w => .abx w
  | .eorAby w => .aby w
  | .eorIzx b => .izx b
  | .eorIzy b => .izy b
  | .incZp b => .zp b
  | .incZpx b => .zpx b
  | .incAbs w => .abs w
  | .incAbx w => .abx w
  | .inx => .imp
  | .iny => .imp
  | .jmpAbs w => .abs w
  | .jmpInd w => .ind w
  | .jsrAbs w => .abs w
  | .ldaImm b => .imm b
  | .ldaZp b => .zp b
  | .ldaZpx b => .zpx b
  | .ldaAbs w => .abs w
  | .ldaAbx w => .abx w
  | .ldaAby w => .aby w
  | .ldaIzx b => .izx b
  | .ldaIzy b => .izy b
  | .ldxImm b => .imm b
  | .ldxZp b => .zp b
  | .ldxZpy b => .zpy b
  | .ldxAbs w => .abs w
  | .ldxAby w => .aby w
  | .ldyImm b => .imm b
  | .ldyZp b => .zp b
  | .ldyZpx b => .zpx b
  | .ldyAbs w => .abs w
  | .ldyAbx w => .abx w
  | .lsrAcc => .acc
  | .lsrZp b => .zp b
  | .lsrZpx b => .zpx b
  | .lsrAbs w => .abs w
  | .lsrAbx w => .abx w
  | .nop => .imp
  | .oraImm b => .imm b
  | .oraZp b => .zp b
  | .oraZpx b => .zpx b
  | .oraAbs w => .abs w
  | .oraAbx w => .abx w
  | .oraAby w => .aby w
  | .oraIzx b => .izx b
  | .oraIzy b => .izy b
  | .pha => .imp
  | .php => .imp
  | .pla => .imp
  | .plp => .imp
  | .rolAcc => .acc
  | .rolZp b => .zp b
  | .rolZpx b => .zpx b
  | .rolAbs w => .abs w
  | .rolAbx w => .abx w
  | .rorAcc => .acc
  | .rorZp b => .zp b
  | .rorZpx b => .zpx b
  | .rorAbs w => .abs w
  | .rorAbx w => .abx w
  | .rti => .imp
  | .rts => .imp
  | .sbcImm b => .imm b
  | .sbcZp b => .zp b
  | .sbcZpx b => .zpx b
  | .sbcAbs w => .abs w
  | .sbcAbx w => .abx w
  | .sbcAby w => .aby w
  | .sbcIzx b => .izx b
  | .sbcIzy b => .izy b
  | .sec => .imp
  | .sed => .imp
  | .sei => .imp
  | .staZp b => .zp b
  | .staZpx b => .zpx b
  | .staAbs w => .abs w
  | .staAbx w => .abx w
  | .staAby w => .aby w
  | .staIzx b => .izx b
  | .staIzy b => .izy b
  | .stxZp b => .zp b
  | .stxZpy b => .zpy b
  | .stxAbs w => .abs w
  | .styZp b => .zp b
  | .styZpx b => .zpx b
  | .styAbs w => .abs w
  | .tax => .imp
  | .tay => .imp
  | .tsx => .imp
  | .txa => .imp
  | .txs => .imp
  | .tya => .imp

/-- The operand form of an instruction. -/
def Instr.form (i : Instr) : Form := i.operand.form

end Sys2Proof
end

