-- ==== Sys2Proof/Machine/Operands.lean ====
section
/-! DEFINITION. The OperandResolver (40_step_and_addressing.md rules R104 to R117): every operand form's address, value or
target, in a state whose PC already names the next sequential instruction. -/
namespace Sys2Proof.Machine

/-- ZP (R107): the operand byte as a zero-page address. -/
def eaZp (b : Byte) : Word := zext16 b

/-- ZPX (R108): the sum wraps inside the zero page. -/
def eaZpx (b : Byte) (s : State) : Word := zext16 (b + s.x)

/-- ZPY (R109): the same wrap with Y. -/
def eaZpy (b : Byte) (s : State) : Word := zext16 (b + s.y)

/-- ABS (R110): the operand word itself. -/
def eaAbs (w : Word) : Word := w

/-- ABX (R111): the word plus X, X unsigned, modulo 65536. -/
def eaAbx (w : Word) (s : State) : Word := w + zext16 s.x

/-- ABY (R112): the word plus Y, Y unsigned, modulo 65536. -/
def eaAby (w : Word) (s : State) : Word := w + zext16 s.y

/-- IND (R113): the word stored at the operand word, the second byte at the next address modulo 65536. -/
def eaInd (w : Word) (s : State) : Word := s.readWord w

/-- The address `q` of the high byte of the zero-page pointer at `p` (R114): it depends on ZP_PTR_WRAP only at 0xFF. -/
def zpPtrHigh (p : Byte) (s : State) : Word :=
  if p = 0xFF#8 then (if s.cfg.zpPtrWrap then 0x0000#16 else 0x0100#16) else zext16 p + 1

/-- `ZpPtr(p)` (R114): the little-endian pointer whose low byte is at 0x00pp. -/
def zpPtr (p : Byte) (s : State) : Word := mkWord (s.readByte (zpPtrHigh p s)) (s.readByte (zext16 p))

/-- IZX (R114): the pointer at `(b + X) mod 256`. -/
def eaIzx (b : Byte) (s : State) : Word := zpPtr (b + s.x) s

/-- IZY (R115): the pointer at `b`, plus Y, Y unsigned, modulo 65536. -/
def eaIzy (b : Byte) (s : State) : Word := zpPtr b s + zext16 s.y

/-- REL (R116): the PC after the offset byte plus the sign-extended offset, modulo 65536. -/
def relTarget (b : Byte) (s : State) : Word := s.pc + sext16 b

end Sys2Proof.Machine

namespace Sys2Proof
open Sys2Proof.Machine

/-- The effective address of an operand, for the forms that have one (R104 to R115). -/
def Operand.address? : Operand → State → Option Word
  | .imp, _ => none
  | .acc, _ => none
  | .imm _, _ => none
  | .zp b, _ => some (eaZp b)
  | .zpx b, s => some (eaZpx b s)
  | .zpy b, s => some (eaZpy b s)
  | .abs w, _ => some (eaAbs w)
  | .abx w, s => some (eaAbx w s)
  | .aby w, s => some (eaAby w s)
  | .ind w, s => some (eaInd w s)
  | .izx b, s => some (eaIzx b s)
  | .izy b, s => some (eaIzy b s)
  | .rel _, _ => none

/-- The operand value M (R117): the immediate byte, or the byte at the effective address. -/
def Operand.value? : Operand → State → Option Byte
  | .imp, _ => none
  | .acc, _ => none
  | .imm m, _ => some m
  | .zp b, s => some (s.readByte (eaZp b))
  | .zpx b, s => some (s.readByte (eaZpx b s))
  | .zpy b, s => some (s.readByte (eaZpy b s))
  | .abs w, s => some (s.readByte (eaAbs w))
  | .abx w, s => some (s.readByte (eaAbx w s))
  | .aby w, s => some (s.readByte (eaAby w s))
  | .ind w, s => some (s.readByte (eaInd w s))
  | .izx b, s => some (s.readByte (eaIzx b s))
  | .izy b, s => some (s.readByte (eaIzy b s))
  | .rel _, _ => none

end Sys2Proof
end

