-- ==== Sys2Proof/Machine/LoadStore.lean ====
section
/-! DEFINITION. Load, store and register-transfer instructions (41_load_store_transfer.md). A meaning runs after the resolver: PC
already names the next sequential instruction (R25, R101). -/
namespace Sys2Proof.Machine

/-- `A <- M; setZN(A)` (R130). -/
def loadA (m : Byte) (s : State) : State := (s.setA m).setZN m

/-- `X <- M; setZN(X)` (R131). -/
def loadX (m : Byte) (s : State) : State := (s.setX m).setZN m

/-- `Y <- M; setZN(Y)` (R132). -/
def loadY (m : Byte) (s : State) : State := (s.setY m).setZN m

/-! ## Loads (R130 to R132) -/

/-- LDA immediate (opcode A9; R130, R106). -/
def execLdaImm (b : Byte) (s : State) : Result :=
  .next (loadA b s)

/-- LDA zero-page (opcode A5; R130, R107). -/
def execLdaZp (b : Byte) (s : State) : Result :=
  .next (loadA (s.readByte (eaZp b)) s)

/-- LDA zero-page-X (opcode B5; R130, R108). -/
def execLdaZpx (b : Byte) (s : State) : Result :=
  .next (loadA (s.readByte (eaZpx b s)) s)

/-- LDA absolute (opcode AD; R130, R110). -/
def execLdaAbs (w : Word) (s : State) : Result :=
  .next (loadA (s.readByte (eaAbs w)) s)

/-- LDA absolute-X (opcode BD; R130, R111). -/
def execLdaAbx (w : Word) (s : State) : Result :=
  .next (loadA (s.readByte (eaAbx w s)) s)

/-- LDA absolute-Y (opcode B9; R130, R112). -/
def execLdaAby (w : Word) (s : State) : Result :=
  .next (loadA (s.readByte (eaAby w s)) s)

/-- LDA indirect-X (opcode A1; R130, R114). -/
def execLdaIzx (b : Byte) (s : State) : Result :=
  .next (loadA (s.readByte (eaIzx b s)) s)

/-- LDA indirect-Y (opcode B1; R130, R115). -/
def execLdaIzy (b : Byte) (s : State) : Result :=
  .next (loadA (s.readByte (eaIzy b s)) s)

/-- LDX immediate (opcode A2; R131, R106). -/
def execLdxImm (b : Byte) (s : State) : Result :=
  .next (loadX b s)

/-- LDX zero-page (opcode A6; R131, R107). -/
def execLdxZp (b : Byte) (s : State) : Result :=
  .next (loadX (s.readByte (eaZp b)) s)

/-- LDX zero-page-Y (opcode B6; R131, R109). -/
def execLdxZpy (b : Byte) (s : State) : Result :=
  .next (loadX (s.readByte (eaZpy b s)) s)

/-- LDX absolute (opcode AE; R131, R110). -/
def execLdxAbs (w : Word) (s : State) : Result :=
  .next (loadX (s.readByte (eaAbs w)) s)

/-- LDX absolute-Y (opcode BE; R131, R112). -/
def execLdxAby (w : Word) (s : State) : Result :=
  .next (loadX (s.readByte (eaAby w s)) s)

/-- LDY immediate (opcode A0; R132, R106). -/
def execLdyImm (b : Byte) (s : State) : Result :=
  .next (loadY b s)

/-- LDY zero-page (opcode A4; R132, R107). -/
def execLdyZp (b : Byte) (s : State) : Result :=
  .next (loadY (s.readByte (eaZp b)) s)

/-- LDY zero-page-X (opcode B4; R132, R108). -/
def execLdyZpx (b : Byte) (s : State) : Result :=
  .next (loadY (s.readByte (eaZpx b s)) s)

/-- LDY absolute (opcode AC; R132, R110). -/
def execLdyAbs (w : Word) (s : State) : Result :=
  .next (loadY (s.readByte (eaAbs w)) s)

/-- LDY absolute-X (opcode BC; R132, R111). -/
def execLdyAbx (w : Word) (s : State) : Result :=
  .next (loadY (s.readByte (eaAbx w s)) s)

/-! ## Stores (R133 to R135): no flag is written -/

/-- STA zero-page (opcode 85; R133, R107). -/
def execStaZp (b : Byte) (s : State) : Result :=
  .next (s.writeByte (eaZp b) s.a)

/-- STA zero-page-X (opcode 95; R133, R108). -/
def execStaZpx (b : Byte) (s : State) : Result :=
  .next (s.writeByte (eaZpx b s) s.a)

/-- STA absolute (opcode 8D; R133, R110). -/
def execStaAbs (w : Word) (s : State) : Result :=
  .next (s.writeByte (eaAbs w) s.a)

/-- STA absolute-X (opcode 9D; R133, R111). -/
def execStaAbx (w : Word) (s : State) : Result :=
  .next (s.writeByte (eaAbx w s) s.a)

/-- STA absolute-Y (opcode 99; R133, R112). -/
def execStaAby (w : Word) (s : State) : Result :=
  .next (s.writeByte (eaAby w s) s.a)

/-- STA indirect-X (opcode 81; R133, R114). -/
def execStaIzx (b : Byte) (s : State) : Result :=
  .next (s.writeByte (eaIzx b s) s.a)

/-- STA indirect-Y (opcode 91; R133, R115). -/
def execStaIzy (b : Byte) (s : State) : Result :=
  .next (s.writeByte (eaIzy b s) s.a)

/-- STX zero-page (opcode 86; R134, R107). -/
def execStxZp (b : Byte) (s : State) : Result :=
  .next (s.writeByte (eaZp b) s.x)

/-- STX zero-page-Y (opcode 96; R134, R109). -/
def execStxZpy (b : Byte) (s : State) : Result :=
  .next (s.writeByte (eaZpy b s) s.x)

/-- STX absolute (opcode 8E; R134, R110). -/
def execStxAbs (w : Word) (s : State) : Result :=
  .next (s.writeByte (eaAbs w) s.x)

/-- STY zero-page (opcode 84; R135, R107). -/
def execStyZp (b : Byte) (s : State) : Result :=
  .next (s.writeByte (eaZp b) s.y)

/-- STY zero-page-X (opcode 94; R135, R108). -/
def execStyZpx (b : Byte) (s : State) : Result :=
  .next (s.writeByte (eaZpx b s) s.y)

/-- STY absolute (opcode 8C; R135, R110). -/
def execStyAbs (w : Word) (s : State) : Result :=
  .next (s.writeByte (eaAbs w) s.y)

/-! ## Register transfers (R136 to R141): TXS writes no flag -/

/-- TAX (opcode AA; R136). -/
def execTax (s : State) : Result :=
  .next (loadX s.a s)

/-- TAY (opcode A8; R137). -/
def execTay (s : State) : Result :=
  .next (loadY s.a s)

/-- TXA (opcode 8A; R138). -/
def execTxa (s : State) : Result :=
  .next (loadA s.x s)

/-- TYA (opcode 98; R139). -/
def execTya (s : State) : Result :=
  .next (loadA s.y s)

/-- TSX (opcode BA; R140). -/
def execTsx (s : State) : Result :=
  .next (loadX s.sp s)

/-- TXS (opcode 9A; R141). -/
def execTxs (s : State) : Result :=
  .next (s.setSp s.x)

end Sys2Proof.Machine
end

