-- ==== Sys2Proof/Machine/Arith.lean ====
section
/-! DEFINITION. Arithmetic, logic, compare, increment and decrement (42_arithmetic_logic.md). The D flag is never read (R30). -/
namespace Sys2Proof.Machine

/-- ADC (R151): the adder on A, M and the incoming carry. -/
def addToA (m : Byte) (s : State) : State :=
  let r := add8 s.a m s.p.c
  (s.setA r.result).setFlags (s.p.ofSum r)

/-- SBC (R152): the same adder, fed the complement of M. -/
def subFromA (m : Byte) (s : State) : State := addToA (m ^^^ 0xFF#8) s

/-- AND (R153): C and V are not written. -/
def andA (m : Byte) (s : State) : State := loadA (s.a &&& m) s

/-- ORA (R154). -/
def orA (m : Byte) (s : State) : State := loadA (s.a ||| m) s

/-- EOR (R155). -/
def eorA (m : Byte) (s : State) : State := loadA (s.a ^^^ m) s

/-- BIT (R156): only flags are written. -/
def bitA (m : Byte) (s : State) : State := s.setFlags (s.p.bitTest s.a m)

/-- A compare of a register with M (R157): only C, Z and N are written. -/
def compareWith (reg m : Byte) (s : State) : State := s.setFlags (s.p.compare reg m)

/-- INC (R161): one read, one write, Z and N of the byte written. -/
def State.incMem (s : State) (ea : Word) : State :=
  let v := s.readByte ea + 1
  (s.writeByte ea v).setZN v

/-- DEC (R162). -/
def State.decMem (s : State) (ea : Word) : State :=
  let v := s.readByte ea - 1
  (s.writeByte ea v).setZN v

/-! ## Add and subtract (R151, R152) -/

/-- ADC immediate (opcode 69; R151, R106). -/
def execAdcImm (b : Byte) (s : State) : Result :=
  .next (addToA b s)

/-- ADC zero-page (opcode 65; R151, R107). -/
def execAdcZp (b : Byte) (s : State) : Result :=
  .next (addToA (s.readByte (eaZp b)) s)

/-- ADC zero-page-X (opcode 75; R151, R108). -/
def execAdcZpx (b : Byte) (s : State) : Result :=
  .next (addToA (s.readByte (eaZpx b s)) s)

/-- ADC absolute (opcode 6D; R151, R110). -/
def execAdcAbs (w : Word) (s : State) : Result :=
  .next (addToA (s.readByte (eaAbs w)) s)

/-- ADC absolute-X (opcode 7D; R151, R111). -/
def execAdcAbx (w : Word) (s : State) : Result :=
  .next (addToA (s.readByte (eaAbx w s)) s)

/-- ADC absolute-Y (opcode 79; R151, R112). -/
def execAdcAby (w : Word) (s : State) : Result :=
  .next (addToA (s.readByte (eaAby w s)) s)

/-- ADC indirect-X (opcode 61; R151, R114). -/
def execAdcIzx (b : Byte) (s : State) : Result :=
  .next (addToA (s.readByte (eaIzx b s)) s)

/-- ADC indirect-Y (opcode 71; R151, R115). -/
def execAdcIzy (b : Byte) (s : State) : Result :=
  .next (addToA (s.readByte (eaIzy b s)) s)

/-- SBC immediate (opcode E9; R152, R106). -/
def execSbcImm (b : Byte) (s : State) : Result :=
  .next (subFromA b s)

/-- SBC zero-page (opcode E5; R152, R107). -/
def execSbcZp (b : Byte) (s : State) : Result :=
  .next (subFromA (s.readByte (eaZp b)) s)

/-- SBC zero-page-X (opcode F5; R152, R108). -/
def execSbcZpx (b : Byte) (s : State) : Result :=
  .next (subFromA (s.readByte (eaZpx b s)) s)

/-- SBC absolute (opcode ED; R152, R110). -/
def execSbcAbs (w : Word) (s : State) : Result :=
  .next (subFromA (s.readByte (eaAbs w)) s)

/-- SBC absolute-X (opcode FD; R152, R111). -/
def execSbcAbx (w : Word) (s : State) : Result :=
  .next (subFromA (s.readByte (eaAbx w s)) s)

/-- SBC absolute-Y (opcode F9; R152, R112). -/
def execSbcAby (w : Word) (s : State) : Result :=
  .next (subFromA (s.readByte (eaAby w s)) s)

/-- SBC indirect-X (opcode E1; R152, R114). -/
def execSbcIzx (b : Byte) (s : State) : Result :=
  .next (subFromA (s.readByte (eaIzx b s)) s)

/-- SBC indirect-Y (opcode F1; R152, R115). -/
def execSbcIzy (b : Byte) (s : State) : Result :=
  .next (subFromA (s.readByte (eaIzy b s)) s)

/-! ## Bitwise logic (R153 to R156) -/

/-- AND immediate (opcode 29; R153, R106). -/
def execAndImm (b : Byte) (s : State) : Result :=
  .next (andA b s)

/-- AND zero-page (opcode 25; R153, R107). -/
def execAndZp (b : Byte) (s : State) : Result :=
  .next (andA (s.readByte (eaZp b)) s)

/-- AND zero-page-X (opcode 35; R153, R108). -/
def execAndZpx (b : Byte) (s : State) : Result :=
  .next (andA (s.readByte (eaZpx b s)) s)

/-- AND absolute (opcode 2D; R153, R110). -/
def execAndAbs (w : Word) (s : State) : Result :=
  .next (andA (s.readByte (eaAbs w)) s)

/-- AND absolute-X (opcode 3D; R153, R111). -/
def execAndAbx (w : Word) (s : State) : Result :=
  .next (andA (s.readByte (eaAbx w s)) s)

/-- AND absolute-Y (opcode 39; R153, R112). -/
def execAndAby (w : Word) (s : State) : Result :=
  .next (andA (s.readByte (eaAby w s)) s)

/-- AND indirect-X (opcode 21; R153, R114). -/
def execAndIzx (b : Byte) (s : State) : Result :=
  .next (andA (s.readByte (eaIzx b s)) s)

/-- AND indirect-Y (opcode 31; R153, R115). -/
def execAndIzy (b : Byte) (s : State) : Result :=
  .next (andA (s.readByte (eaIzy b s)) s)

/-- ORA immediate (opcode 09; R154, R106). -/
def execOraImm (b : Byte) (s : State) : Result :=
  .next (orA b s)

/-- ORA zero-page (opcode 05; R154, R107). -/
def execOraZp (b : Byte) (s : State) : Result :=
  .next (orA (s.readByte (eaZp b)) s)

/-- ORA zero-page-X (opcode 15; R154, R108). -/
def execOraZpx (b : Byte) (s : State) : Result :=
  .next (orA (s.readByte (eaZpx b s)) s)

/-- ORA absolute (opcode 0D; R154, R110). -/
def execOraAbs (w : Word) (s : State) : Result :=
  .next (orA (s.readByte (eaAbs w)) s)

/-- ORA absolute-X (opcode 1D; R154, R111). -/
def execOraAbx (w : Word) (s : State) : Result :=
  .next (orA (s.readByte (eaAbx w s)) s)

/-- ORA absolute-Y (opcode 19; R154, R112). -/
def execOraAby (w : Word) (s : State) : Result :=
  .next (orA (s.readByte (eaAby w s)) s)

/-- ORA indirect-X (opcode 01; R154, R114). -/
def execOraIzx (b : Byte) (s : State) : Result :=
  .next (orA (s.readByte (eaIzx b s)) s)

/-- ORA indirect-Y (opcode 11; R154, R115). -/
def execOraIzy (b : Byte) (s : State) : Result :=
  .next (orA (s.readByte (eaIzy b s)) s)

/-- EOR immediate (opcode 49; R155, R106). -/
def execEorImm (b : Byte) (s : State) : Result :=
  .next (eorA b s)

/-- EOR zero-page (opcode 45; R155, R107). -/
def execEorZp (b : Byte) (s : State) : Result :=
  .next (eorA (s.readByte (eaZp b)) s)

/-- EOR zero-page-X (opcode 55; R155, R108). -/
def execEorZpx (b : Byte) (s : State) : Result :=
  .next (eorA (s.readByte (eaZpx b s)) s)

/-- EOR absolute (opcode 4D; R155, R110). -/
def execEorAbs (w : Word) (s : State) : Result :=
  .next (eorA (s.readByte (eaAbs w)) s)

/-- EOR absolute-X (opcode 5D; R155, R111). -/
def execEorAbx (w : Word) (s : State) : Result :=
  .next (eorA (s.readByte (eaAbx w s)) s)

/-- EOR absolute-Y (opcode 59; R155, R112). -/
def execEorAby (w : Word) (s : State) : Result :=
  .next (eorA (s.readByte (eaAby w s)) s)

/-- EOR indirect-X (opcode 41; R155, R114). -/
def execEorIzx (b : Byte) (s : State) : Result :=
  .next (eorA (s.readByte (eaIzx b s)) s)

/-- EOR indirect-Y (opcode 51; R155, R115). -/
def execEorIzy (b : Byte) (s : State) : Result :=
  .next (eorA (s.readByte (eaIzy b s)) s)

/-- BIT zero-page (opcode 24; R156, R107). -/
def execBitZp (b : Byte) (s : State) : Result :=
  .next (bitA (s.readByte (eaZp b)) s)

/-- BIT absolute (opcode 2C; R156, R110). -/
def execBitAbs (w : Word) (s : State) : Result :=
  .next (bitA (s.readByte (eaAbs w)) s)

/-! ## Compares (R157 to R160) -/

/-- CMP immediate (opcode C9; R158, R106). -/
def execCmpImm (b : Byte) (s : State) : Result :=
  .next (compareWith s.a b s)

/-- CMP zero-page (opcode C5; R158, R107). -/
def execCmpZp (b : Byte) (s : State) : Result :=
  .next (compareWith s.a (s.readByte (eaZp b)) s)

/-- CMP zero-page-X (opcode D5; R158, R108). -/
def execCmpZpx (b : Byte) (s : State) : Result :=
  .next (compareWith s.a (s.readByte (eaZpx b s)) s)

/-- CMP absolute (opcode CD; R158, R110). -/
def execCmpAbs (w : Word) (s : State) : Result :=
  .next (compareWith s.a (s.readByte (eaAbs w)) s)

/-- CMP absolute-X (opcode DD; R158, R111). -/
def execCmpAbx (w : Word) (s : State) : Result :=
  .next (compareWith s.a (s.readByte (eaAbx w s)) s)

/-- CMP absolute-Y (opcode D9; R158, R112). -/
def execCmpAby (w : Word) (s : State) : Result :=
  .next (compareWith s.a (s.readByte (eaAby w s)) s)

/-- CMP indirect-X (opcode C1; R158, R114). -/
def execCmpIzx (b : Byte) (s : State) : Result :=
  .next (compareWith s.a (s.readByte (eaIzx b s)) s)

/-- CMP indirect-Y (opcode D1; R158, R115). -/
def execCmpIzy (b : Byte) (s : State) : Result :=
  .next (compareWith s.a (s.readByte (eaIzy b s)) s)

/-- CPX immediate (opcode E0; R159, R106). -/
def execCpxImm (b : Byte) (s : State) : Result :=
  .next (compareWith s.x b s)

/-- CPX zero-page (opcode E4; R159, R107). -/
def execCpxZp (b : Byte) (s : State) : Result :=
  .next (compareWith s.x (s.readByte (eaZp b)) s)

/-- CPX absolute (opcode EC; R159, R110). -/
def execCpxAbs (w : Word) (s : State) : Result :=
  .next (compareWith s.x (s.readByte (eaAbs w)) s)

/-- CPY immediate (opcode C0; R160, R106). -/
def execCpyImm (b : Byte) (s : State) : Result :=
  .next (compareWith s.y b s)

/-- CPY zero-page (opcode C4; R160, R107). -/
def execCpyZp (b : Byte) (s : State) : Result :=
  .next (compareWith s.y (s.readByte (eaZp b)) s)

/-- CPY absolute (opcode CC; R160, R110). -/
def execCpyAbs (w : Word) (s : State) : Result :=
  .next (compareWith s.y (s.readByte (eaAbs w)) s)

/-! ## Increment and decrement (R161 to R166) -/

/-- INC zero-page (opcode E6; R161, R107). -/
def execIncZp (b : Byte) (s : State) : Result :=
  .next (s.incMem (eaZp b))

/-- INC zero-page-X (opcode F6; R161, R108). -/
def execIncZpx (b : Byte) (s : State) : Result :=
  .next (s.incMem (eaZpx b s))

/-- INC absolute (opcode EE; R161, R110). -/
def execIncAbs (w : Word) (s : State) : Result :=
  .next (s.incMem (eaAbs w))

/-- INC absolute-X (opcode FE; R161, R111). -/
def execIncAbx (w : Word) (s : State) : Result :=
  .next (s.incMem (eaAbx w s))

/-- DEC zero-page (opcode C6; R162, R107). -/
def execDecZp (b : Byte) (s : State) : Result :=
  .next (s.decMem (eaZp b))

/-- DEC zero-page-X (opcode D6; R162, R108). -/
def execDecZpx (b : Byte) (s : State) : Result :=
  .next (s.decMem (eaZpx b s))

/-- DEC absolute (opcode CE; R162, R110). -/
def execDecAbs (w : Word) (s : State) : Result :=
  .next (s.decMem (eaAbs w))

/-- DEC absolute-X (opcode DE; R162, R111). -/
def execDecAbx (w : Word) (s : State) : Result :=
  .next (s.decMem (eaAbx w s))

/-- INX (opcode E8; R163). -/
def execInx (s : State) : Result :=
  .next (loadX (s.x + 1) s)

/-- INY (opcode C8; R164). -/
def execIny (s : State) : Result :=
  .next (loadY (s.y + 1) s)

/-- DEX (opcode CA; R165). -/
def execDex (s : State) : Result :=
  .next (loadX (s.x - 1) s)

/-- DEY (opcode 88; R166). -/
def execDey (s : State) : Result :=
  .next (loadY (s.y - 1) s)

end Sys2Proof.Machine
end

