-- ==== Sys2Proof/Machine/Control.lean ====
section
/-! DEFINITION. Branches, jumps, subroutine call and return (44_control_transfer.md). -/
namespace Sys2Proof.Machine

/-- The common rule of the branches (R190): taken, PC is the target; not taken, nothing. -/
def State.branch (s : State) (cond : Bool) (b : Byte) : State :=
  if cond then s.setPc (relTarget b s) else s

/-- JSR (R201): under LINKAGE = hardware the return address minus one is pushed, high byte first; under halting nothing
is; the jump happens under both. -/
def State.callSubroutine (s : State) (ea : Word) : State :=
  match s.cfg.linkage with
  | .halting => s.setPc ea
  | .hardware => (s.pushWord (s.pc - 1)).setPc ea

/-- RTS (R203): under LINKAGE = halting the engine halts and nothing else changes; under hardware the return address
minus one is pulled and one is added. -/
def State.returnFromSubroutine (s : State) : State :=
  match s.cfg.linkage with
  | .halting => s.halt
  | .hardware =>
    let (ret, s1) := s.pullWord
    s1.setPc (ret + 1)

/-! ## Conditional branches (R190 to R198) -/

/-- BCC relative (opcode 90; R191, R116). -/
def execBccRel (b : Byte) (s : State) : Result :=
  .next (s.branch (!s.p.c) b)

/-- BCS relative (opcode B0; R192, R116). -/
def execBcsRel (b : Byte) (s : State) : Result :=
  .next (s.branch (s.p.c) b)

/-- BEQ relative (opcode F0; R193, R116). -/
def execBeqRel (b : Byte) (s : State) : Result :=
  .next (s.branch (s.p.z) b)

/-- BNE relative (opcode D0; R194, R116). -/
def execBneRel (b : Byte) (s : State) : Result :=
  .next (s.branch (!s.p.z) b)

/-- BMI relative (opcode 30; R195, R116). -/
def execBmiRel (b : Byte) (s : State) : Result :=
  .next (s.branch (s.p.n) b)

/-- BPL relative (opcode 10; R196, R116). -/
def execBplRel (b : Byte) (s : State) : Result :=
  .next (s.branch (!s.p.n) b)

/-- BVC relative (opcode 50; R197, R116). -/
def execBvcRel (b : Byte) (s : State) : Result :=
  .next (s.branch (!s.p.v) b)

/-- BVS relative (opcode 70; R198, R116). -/
def execBvsRel (b : Byte) (s : State) : Result :=
  .next (s.branch (s.p.v) b)

/-! ## Jump, call, return (R199 to R203) -/

/-- JMP absolute (opcode 4C; R199, R110). -/
def execJmpAbs (w : Word) (s : State) : Result :=
  .next (s.setPc (eaAbs w))

/-- JMP indirect (opcode 6C; R199, R113). -/
def execJmpInd (w : Word) (s : State) : Result :=
  .next (s.setPc (eaInd w s))

/-- JSR absolute (opcode 20; R201, R110). -/
def execJsrAbs (w : Word) (s : State) : Result :=
  .next (s.callSubroutine (eaAbs w))

/-- RTS (opcode 60; R203). -/
def execRts (s : State) : Result :=
  .next s.returnFromSubroutine

end Sys2Proof.Machine
end

