-- ==== Sys2Proof/Machine/Shift.lean ====
section
/-! DEFINITION. Shift and rotate instructions (43_shift_rotate.md): one operation, an accumulator and a memory variant (R180). -/
namespace Sys2Proof.Machine

/-- The accumulator variant (R180). -/
def State.shiftA (s : State) (f : ShiftOp) : State :=
  let r := f s.a s.p.c
  (s.setA r.result).setFlags (s.p.ofShift r)

/-- The memory variant (R180): the byte at `ea` is read once and written once; A takes no part. -/
def State.shiftMem (s : State) (ea : Word) (f : ShiftOp) : State :=
  let r := f (s.readByte ea) s.p.c
  (s.writeByte ea r.result).setFlags (s.p.ofShift r)

/-! ## ASL LSR ROL ROR (R181 to R184) -/

/-- ASL accumulator (opcode 0A; R181, R105). -/
def execAslAcc (s : State) : Result :=
  .next (s.shiftA aslOp)

/-- ASL zero-page (opcode 06; R181, R107). -/
def execAslZp (b : Byte) (s : State) : Result :=
  .next (s.shiftMem (eaZp b) aslOp)

/-- ASL zero-page-X (opcode 16; R181, R108). -/
def execAslZpx (b : Byte) (s : State) : Result :=
  .next (s.shiftMem (eaZpx b s) aslOp)

/-- ASL absolute (opcode 0E; R181, R110). -/
def execAslAbs (w : Word) (s : State) : Result :=
  .next (s.shiftMem (eaAbs w) aslOp)

/-- ASL absolute-X (opcode 1E; R181, R111). -/
def execAslAbx (w : Word) (s : State) : Result :=
  .next (s.shiftMem (eaAbx w s) aslOp)

/-- LSR accumulator (opcode 4A; R182, R105). -/
def execLsrAcc (s : State) : Result :=
  .next (s.shiftA lsrOp)

/-- LSR zero-page (opcode 46; R182, R107). -/
def execLsrZp (b : Byte) (s : State) : Result :=
  .next (s.shiftMem (eaZp b) lsrOp)

/-- LSR zero-page-X (opcode 56; R182, R108). -/
def execLsrZpx (b : Byte) (s : State) : Result :=
  .next (s.shiftMem (eaZpx b s) lsrOp)

/-- LSR absolute (opcode 4E; R182, R110). -/
def execLsrAbs (w : Word) (s : State) : Result :=
  .next (s.shiftMem (eaAbs w) lsrOp)

/-- LSR absolute-X (opcode 5E; R182, R111). -/
def execLsrAbx (w : Word) (s : State) : Result :=
  .next (s.shiftMem (eaAbx w s) lsrOp)

/-- ROL accumulator (opcode 2A; R183, R105). -/
def execRolAcc (s : State) : Result :=
  .next (s.shiftA rolOp)

/-- ROL zero-page (opcode 26; R183, R107). -/
def execRolZp (b : Byte) (s : State) : Result :=
  .next (s.shiftMem (eaZp b) rolOp)

/-- ROL zero-page-X (opcode 36; R183, R108). -/
def execRolZpx (b : Byte) (s : State) : Result :=
  .next (s.shiftMem (eaZpx b s) rolOp)

/-- ROL absolute (opcode 2E; R183, R110). -/
def execRolAbs (w : Word) (s : State) : Result :=
  .next (s.shiftMem (eaAbs w) rolOp)

/-- ROL absolute-X (opcode 3E; R183, R111). -/
def execRolAbx (w : Word) (s : State) : Result :=
  .next (s.shiftMem (eaAbx w s) rolOp)

/-- ROR accumulator (opcode 6A; R184, R105). -/
def execRorAcc (s : State) : Result :=
  .next (s.shiftA rorOp)

/-- ROR zero-page (opcode 66; R184, R107). -/
def execRorZp (b : Byte) (s : State) : Result :=
  .next (s.shiftMem (eaZp b) rorOp)

/-- ROR zero-page-X (opcode 76; R184, R108). -/
def execRorZpx (b : Byte) (s : State) : Result :=
  .next (s.shiftMem (eaZpx b s) rorOp)

/-- ROR absolute (opcode 6E; R184, R110). -/
def execRorAbs (w : Word) (s : State) : Result :=
  .next (s.shiftMem (eaAbs w) rorOp)

/-- ROR absolute-X (opcode 7E; R184, R111). -/
def execRorAbx (w : Word) (s : State) : Result :=
  .next (s.shiftMem (eaAbx w s) rorOp)

end Sys2Proof.Machine
end

