-- ==== Sys2Proof/Machine/System.lean ====
section
/-! DEFINITION. Stack, flag and system instructions (45_stack_flags_system.md). -/
namespace Sys2Proof.Machine

/-- PLA (R212): `A <- pull(); setZN(A)`. -/
def State.pullA (s : State) : State :=
  let (v, s1) := s.pull
  loadA v s1

/-- BRK (R223): `P.B <- 1; halt()`, and nothing else: no push, no vector, I unchanged (log entry 3). -/
def State.breakAndHalt (s : State) : State := (s.setFlags { s.p with b := true }).halt

/-! ## Stack instructions (R210 to R213) -/

/-- PHA (opcode 48; R210). -/
def execPha (s : State) : Result :=
  .next (s.push s.a)

/-- PHP (opcode 08; R211). -/
def execPhp (s : State) : Result :=
  .next (s.push s.p.pushed)

/-- PLA (opcode 68; R212). -/
def execPla (s : State) : Result :=
  .next s.pullA

/-- PLP (opcode 28; R213). -/
def execPlp (s : State) : Result :=
  .next s.pullFlags

/-! ## Flag set and clear (R214 to R220): one flag each -/

/-- CLC (opcode 18; R214). -/
def execClc (s : State) : Result :=
  .next (s.setFlags { s.p with c := false })

/-- SEC (opcode 38; R215). -/
def execSec (s : State) : Result :=
  .next (s.setFlags { s.p with c := true })

/-- CLD (opcode D8; R216). -/
def execCld (s : State) : Result :=
  .next (s.setFlags { s.p with d := false })

/-- SED (opcode F8; R217). -/
def execSed (s : State) : Result :=
  .next (s.setFlags { s.p with d := true })

/-- CLI (opcode 58; R218). -/
def execCli (s : State) : Result :=
  .next (s.setFlags { s.p with i := false })

/-- SEI (opcode 78; R219). -/
def execSei (s : State) : Result :=
  .next (s.setFlags { s.p with i := true })

/-- CLV (opcode B8; R220). -/
def execClv (s : State) : Result :=
  .next (s.setFlags { s.p with v := false })

/-! ## System instructions (R221 to R224) -/

/-- NOP (opcode EA; R221). -/
def execNop (s : State) : Result :=
  .next s

/-- BRK (opcode 00; R223). -/
def execBrk (s : State) : Result :=
  .next s.breakAndHalt

/-- RTI (opcode 40; R224). -/
def execRti (s : State) : Result :=
  .next s.returnFromInterrupt

end Sys2Proof.Machine
end

