-- ==== Sys2Proof/WellFormed.lean ====
section
/-! DEFINITION. Which mnemonics go with which operand forms (30_encoding.md rule R86) and when a descriptor or an instruction
is well formed. A pair outside this table is what 60_exceptions.md rule R233 calls UnsupportedAddressingMode, "an internal
table/dispatch inconsistency": it is a property of a term here, and no state of the machine. -/
namespace Sys2Proof

/-- The forms of the read operations ADC AND CMP EOR LDA ORA SBC (R130, R151 to R155, R158). -/
def Form.aluForms : List Form := [.IMM, .ZP, .ZPX, .ABS, .ABX, .ABY, .IZX, .IZY]

/-- The forms each mnemonic has: the row of R86, as the instruction's own rule lists it under "Operands". -/
def Mnemonic.forms : Mnemonic → List Form
  | .LDA | .ADC | .SBC | .AND | .ORA | .EOR | .CMP => Form.aluForms
  | .LDX => [.IMM, .ZP, .ZPY, .ABS, .ABY]
  | .LDY => [.IMM, .ZP, .ZPX, .ABS, .ABX]
  | .STA => [.ZP, .ZPX, .ABS, .ABX, .ABY, .IZX, .IZY]
  | .STX => [.ZP, .ZPY, .ABS]
  | .STY => [.ZP, .ZPX, .ABS]
  | .BIT => [.ZP, .ABS]
  | .CPX | .CPY => [.IMM, .ZP, .ABS]
  | .INC | .DEC => [.ZP, .ZPX, .ABS, .ABX]
  | .ASL | .LSR | .ROL | .ROR => [.ACC, .ZP, .ZPX, .ABS, .ABX]
  | .BCC | .BCS | .BEQ | .BMI | .BNE | .BPL | .BVC | .BVS => [.REL]
  | .JMP => [.ABS, .IND]
  | .JSR => [.ABS]
  | .BRK | .RTI | .RTS | .NOP => [.IMP]
  | .PHA | .PHP | .PLA | .PLP => [.IMP]
  | .CLC | .CLD | .CLI | .CLV | .SEC | .SED | .SEI => [.IMP]
  | .TAX | .TAY | .TSX | .TXA | .TXS | .TYA => [.IMP]
  | .INX | .INY | .DEX | .DEY => [.IMP]

/-- The check that a mnemonic is paired with an operand of a form its rule defines (R86, R233). -/
def Mnemonic.accepts (m : Mnemonic) (o : Operand) : Bool := m.forms.contains o.form

/-- The checks on a descriptor (R84): its form is one of its mnemonic's forms, and its length is its form's length (R81). -/
def Descriptor.wf (d : Descriptor) : Bool :=
  d.mnemonic.forms.contains d.form && d.length == d.form.length

/-- An instruction is well formed when its mnemonic accepts its operand. Operand bytes are never illegal (R89). -/
def Instr.wf (i : Instr) : Bool := i.mnemonic.accepts i.operand

end Sys2Proof
end

