-- ==== Sys2Proof/Decode.lean ====
section
/-! DEFINITION. The decoder and the encoder (30_encoding.md). The opcode table follows the 16 by 16 matrix of rule R87; the
encoder's opcode bytes follow the map of rule R86 by mnemonic. -/
namespace Sys2Proof
open Sys2Proof.Machine

/-- How a row's instruction is made from its operand bytes: none, one byte, or a little-endian word (R82). -/
inductive Assembly where
  | noOperand (i : Instr)
  | byteOperand (make : Byte → Instr)
  | wordOperand (make : Word → Instr)

/-- The number of bytes an assembly takes, the opcode byte included (R80). -/
def Assembly.length : Assembly → Nat
  | .noOperand _ => 1
  | .byteOperand _ => 2
  | .wordOperand _ => 3

/-- A row of the decoder's table: the descriptor and how its instruction is made. -/
structure Row where
  descriptor : Descriptor
  assembly : Assembly

/-- A row from its columns. -/
def row (opcode : Byte) (m : Mnemonic) (f : Form) (length cycles : Nat) (make : Assembly) : Row :=
  { descriptor := { mnemonic := m, opcode := opcode, form := f, length := length, baseCycles := cycles },
    assembly := make }

/-- Row 0x of the matrix of R87. -/
def opcodeRow0 : List Row := [
  row 0x00#8 .BRK .IMP 1 7 (.noOperand .brk),
  row 0x01#8 .ORA .IZX 2 6 (.byteOperand .oraIzx),
  row 0x05#8 .ORA .ZP 2 3 (.byteOperand .oraZp),
  row 0x06#8 .ASL .ZP 2 5 (.byteOperand .aslZp),
  row 0x08#8 .PHP .IMP 1 3 (.noOperand .php),
  row 0x09#8 .ORA .IMM 2 2 (.byteOperand .oraImm),
  row 0x0A#8 .ASL .ACC 1 2 (.noOperand .aslAcc),
  row 0x0D#8 .ORA .ABS 3 4 (.wordOperand .oraAbs),
  row 0x0E#8 .ASL .ABS 3 6 (.wordOperand .aslAbs)]

/-- Row 1x of the matrix of R87. -/
def opcodeRow1 : List Row := [
  row 0x10#8 .BPL .REL 2 2 (.byteOperand .bplRel),
  row 0x11#8 .ORA .IZY 2 5 (.byteOperand .oraIzy),
  row 0x15#8 .ORA .ZPX 2 4 (.byteOperand .oraZpx),
  row 0x16#8 .ASL .ZPX 2 6 (.byteOperand .aslZpx),
  row 0x18#8 .CLC .IMP 1 2 (.noOperand .clc),
  row 0x19#8 .ORA .ABY 3 4 (.wordOperand .oraAby),
  row 0x1D#8 .ORA .ABX 3 4 (.wordOperand .oraAbx),
  row 0x1E#8 .ASL .ABX 3 7 (.wordOperand .aslAbx)]

/-- Row 2x of the matrix of R87. -/
def opcodeRow2 : List Row := [
  row 0x20#8 .JSR .ABS 3 6 (.wordOperand .jsrAbs),
  row 0x21#8 .AND .IZX 2 6 (.byteOperand .andIzx),
  row 0x24#8 .BIT .ZP 2 3 (.byteOperand .bitZp),
  row 0x25#8 .AND .ZP 2 3 (.byteOperand .andZp),
  row 0x26#8 .ROL .ZP 2 5 (.byteOperand .rolZp),
  row 0x28#8 .PLP .IMP 1 4 (.noOperand .plp),
  row 0x29#8 .AND .IMM 2 2 (.byteOperand .andImm),
  row 0x2A#8 .ROL .ACC 1 2 (.noOperand .rolAcc),
  row 0x2C#8 .BIT .ABS 3 4 (.wordOperand .bitAbs),
  row 0x2D#8 .AND .ABS 3 4 (.wordOperand .andAbs),
  row 0x2E#8 .ROL .ABS 3 6 (.wordOperand .rolAbs)]

/-- Row 3x of the matrix of R87. -/
def opcodeRow3 : List Row := [
  row 0x30#8 .BMI .REL 2 2 (.byteOperand .bmiRel),
  row 0x31#8 .AND .IZY 2 5 (.byteOperand .andIzy),
  row 0x35#8 .AND .ZPX 2 4 (.byteOperand .andZpx),
  row 0x36#8 .ROL .ZPX 2 6 (.byteOperand .rolZpx),
  row 0x38#8 .SEC .IMP 1 2 (.noOperand .sec),
  row 0x39#8 .AND .ABY 3 4 (.wordOperand .andAby),
  row 0x3D#8 .AND .ABX 3 4 (.wordOperand .andAbx),
  row 0x3E#8 .ROL .ABX 3 7 (.wordOperand .rolAbx)]

/-- Row 4x of the matrix of R87. -/
def opcodeRow4 : List Row := [
  row 0x40#8 .RTI .IMP 1 6 (.noOperand .rti),
  row 0x41#8 .EOR .IZX 2 6 (.byteOperand .eorIzx),
  row 0x45#8 .EOR .ZP 2 3 (.byteOperand .eorZp),
  row 0x46#8 .LSR .ZP 2 5 (.byteOperand .lsrZp),
  row 0x48#8 .PHA .IMP 1 3 (.noOperand .pha),
  row 0x49#8 .EOR .IMM 2 2 (.byteOperand .eorImm),
  row 0x4A#8 .LSR .ACC 1 2 (.noOperand .lsrAcc),
  row 0x4C#8 .JMP .ABS 3 3 (.wordOperand .jmpAbs),
  row 0x4D#8 .EOR .ABS 3 4 (.wordOperand .eorAbs),
  row 0x4E#8 .LSR .ABS 3 6 (.wordOperand .lsrAbs)]

/-- Row 5x of the matrix of R87. -/
def opcodeRow5 : List Row := [
  row 0x50#8 .BVC .REL 2 2 (.byteOperand .bvcRel),
  row 0x51#8 .EOR .IZY 2 5 (.byteOperand .eorIzy),
  row 0x55#8 .EOR .ZPX 2 4 (.byteOperand .eorZpx),
  row 0x56#8 .LSR .ZPX 2 6 (.byteOperand .lsrZpx),
  row 0x58#8 .CLI .IMP 1 2 (.noOperand .cli),
  row 0x59#8 .EOR .ABY 3 4 (.wordOperand .eorAby),
  row 0x5D#8 .EOR .ABX 3 4 (.wordOperand .eorAbx),
  row 0x5E#8 .LSR .ABX 3 7 (.wordOperand .lsrAbx)]

/-- Row 6x of the matrix of R87. -/
def opcodeRow6 : List Row := [
  row 0x60#8 .RTS .IMP 1 6 (.noOperand .rts),
  row 0x61#8 .ADC .IZX 2 6 (.byteOperand .adcIzx),
  row 0x65#8 .ADC .ZP 2 3 (.byteOperand .adcZp),
  row 0x66#8 .ROR .ZP 2 5 (.byteOperand .rorZp),
  row 0x68#8 .PLA .IMP 1 4 (.noOperand .pla),
  row 0x69#8 .ADC .IMM 2 2 (.byteOperand .adcImm),
  row 0x6A#8 .ROR .ACC 1 2 (.noOperand .rorAcc),
  row 0x6C#8 .JMP .IND 3 5 (.wordOperand .jmpInd),
  row 0x6D#8 .ADC .ABS 3 4 (.wordOperand .adcAbs),
  row 0x6E#8 .ROR .ABS 3 6 (.wordOperand .rorAbs)]

/-- Row 7x of the matrix of R87. -/
def opcodeRow7 : List Row := [
  row 0x70#8 .BVS .REL 2 2 (.byteOperand .bvsRel),
  row 0x71#8 .ADC .IZY 2 5 (.byteOperand .adcIzy),
  row 0x75#8 .ADC .ZPX 2 4 (.byteOperand .adcZpx),
  row 0x76#8 .ROR .ZPX 2 6 (.byteOperand .rorZpx),
  row 0x78#8 .SEI .IMP 1 2 (.noOperand .sei),
  row 0x79#8 .ADC .ABY 3 4 (.wordOperand .adcAby),
  row 0x7D#8 .ADC .ABX 3 4 (.wordOperand .adcAbx),
  row 0x7E#8 .ROR .ABX 3 7 (.wordOperand .rorAbx)]

/-- Row 8x of the matrix of R87. -/
def opcodeRow8 : List Row := [
  row 0x81#8 .STA .IZX 2 6 (.byteOperand .staIzx),
  row 0x84#8 .STY .ZP 2 3 (.byteOperand .styZp),
  row 0x85#8 .STA .ZP 2 3 (.byteOperand .staZp),
  row 0x86#8 .STX .ZP 2 3 (.byteOperand .stxZp),
  row 0x88#8 .DEY .IMP 1 2 (.noOperand .dey),
  row 0x8A#8 .TXA .IMP 1 2 (.noOperand .txa),
  row 0x8C#8 .STY .ABS 3 4 (.wordOperand .styAbs),
  row 0x8D#8 .STA .ABS 3 4 (.wordOperand .staAbs),
  row 0x8E#8 .STX .ABS 3 4 (.wordOperand .stxAbs)]

/-- Row 9x of the matrix of R87. -/
def opcodeRow9 : List Row := [
  row 0x90#8 .BCC .REL 2 2 (.byteOperand .bccRel),
  row 0x91#8 .STA .IZY 2 6 (.byteOperand .staIzy),
  row 0x94#8 .STY .ZPX 2 4 (.byteOperand .styZpx),
  row 0x95#8 .STA .ZPX 2 4 (.byteOperand .staZpx),
  row 0x96#8 .STX .ZPY 2 4 (.byteOperand .stxZpy),
  row 0x98#8 .TYA .IMP 1 2 (.noOperand .tya),
  row 0x99#8 .STA .ABY 3 5 (.wordOperand .staAby),
  row 0x9A#8 .TXS .IMP 1 2 (.noOperand .txs),
  row 0x9D#8 .STA .ABX 3 5 (.wordOperand .staAbx)]

/-- Row Ax of the matrix of R87. -/
def opcodeRowA : List Row := [
  row 0xA0#8 .LDY .IMM 2 2 (.byteOperand .ldyImm),
  row 0xA1#8 .LDA .IZX 2 6 (.byteOperand .ldaIzx),
  row 0xA2#8 .LDX .IMM 2 2 (.byteOperand .ldxImm),
  row 0xA4#8 .LDY .ZP 2 3 (.byteOperand .ldyZp),
  row 0xA5#8 .LDA .ZP 2 3 (.byteOperand .ldaZp),
  row 0xA6#8 .LDX .ZP 2 3 (.byteOperand .ldxZp),
  row 0xA8#8 .TAY .IMP 1 2 (.noOperand .tay),
  row 0xA9#8 .LDA .IMM 2 2 (.byteOperand .ldaImm),
  row 0xAA#8 .TAX .IMP 1 2 (.noOperand .tax),
  row 0xAC#8 .LDY .ABS 3 4 (.wordOperand .ldyAbs),
  row 0xAD#8 .LDA .ABS 3 4 (.wordOperand .ldaAbs),
  row 0xAE#8 .LDX .ABS 3 4 (.wordOperand .ldxAbs)]

/-- Row Bx of the matrix of R87. -/
def opcodeRowB : List Row := [
  row 0xB0#8 .BCS .REL 2 2 (.byteOperand .bcsRel),
  row 0xB1#8 .LDA .IZY 2 5 (.byteOperand .ldaIzy),
  row 0xB4#8 .LDY .ZPX 2 4 (.byteOperand .ldyZpx),
  row 0xB5#8 .LDA .ZPX 2 4 (.byteOperand .ldaZpx),
  row 0xB6#8 .LDX .ZPY 2 4 (.byteOperand .ldxZpy),
  row 0xB8#8 .CLV .IMP 1 2 (.noOperand .clv),
  row 0xB9#8 .LDA .ABY 3 4 (.wordOperand .ldaAby),
  row 0xBA#8 .TSX .IMP 1 2 (.noOperand .tsx),
  row 0xBC#8 .LDY .ABX 3 4 (.wordOperand .ldyAbx),
  row 0xBD#8 .LDA .ABX 3 4 (.wordOperand .ldaAbx),
  row 0xBE#8 .LDX .ABY 3 4 (.wordOperand .ldxAby)]

/-- Row Cx of the matrix of R87. -/
def opcodeRowC : List Row := [
  row 0xC0#8 .CPY .IMM 2 2 (.byteOperand .cpyImm),
  row 0xC1#8 .CMP .IZX 2 6 (.byteOperand .cmpIzx),
  row 0xC4#8 .CPY .ZP 2 3 (.byteOperand .cpyZp),
  row 0xC5#8 .CMP .ZP 2 3 (.byteOperand .cmpZp),
  row 0xC6#8 .DEC .ZP 2 5 (.byteOperand .decZp),
  row 0xC8#8 .INY .IMP 1 2 (.noOperand .iny),
  row 0xC9#8 .CMP .IMM 2 2 (.byteOperand .cmpImm),
  row 0xCA#8 .DEX .IMP 1 2 (.noOperand .dex),
  row 0xCC#8 .CPY .ABS 3 4 (.wordOperand .cpyAbs),
  row 0xCD#8 .CMP .ABS 3 4 (.wordOperand .cmpAbs),
  row 0xCE#8 .DEC .ABS 3 6 (.wordOperand .decAbs)]

/-- Row Dx of the matrix of R87. -/
def opcodeRowD : List Row := [
  row 0xD0#8 .BNE .REL 2 2 (.byteOperand .bneRel),
  row 0xD1#8 .CMP .IZY 2 5 (.byteOperand .cmpIzy),
  row 0xD5#8 .CMP .ZPX 2 4 (.byteOperand .cmpZpx),
  row 0xD6#8 .DEC .ZPX 2 6 (.byteOperand .decZpx),
  row 0xD8#8 .CLD .IMP 1 2 (.noOperand .cld),
  row 0xD9#8 .CMP .ABY 3 4 (.wordOperand .cmpAby),
  row 0xDD#8 .CMP .ABX 3 4 (.wordOperand .cmpAbx),
  row 0xDE#8 .DEC .ABX 3 7 (.wordOperand .decAbx)]

/-- Row Ex of the matrix of R87. -/
def opcodeRowE : List Row := [
  row 0xE0#8 .CPX .IMM 2 2 (.byteOperand .cpxImm),
  row 0xE1#8 .SBC .IZX 2 6 (.byteOperand .sbcIzx),
  row 0xE4#8 .CPX .ZP 2 3 (.byteOperand .cpxZp),
  row 0xE5#8 .SBC .ZP 2 3 (.byteOperand .sbcZp),
  row 0xE6#8 .INC .ZP 2 5 (.byteOperand .incZp),
  row 0xE8#8 .INX .IMP 1 2 (.noOperand .inx),
  row 0xE9#8 .SBC .IMM 2 2 (.byteOperand .sbcImm),
  row 0xEA#8 .NOP .IMP 1 2 (.noOperand .nop),
  row 0xEC#8 .CPX .ABS 3 4 (.wordOperand .cpxAbs),
  row 0xED#8 .SBC .ABS 3 4 (.wordOperand .sbcAbs),
  row 0xEE#8 .INC .ABS 3 6 (.wordOperand .incAbs)]

/-- Row Fx of the matrix of R87. -/
def opcodeRowF : List Row := [
  row 0xF0#8 .BEQ .REL 2 2 (.byteOperand .beqRel),
  row 0xF1#8 .SBC .IZY 2 5 (.byteOperand .sbcIzy),
  row 0xF5#8 .SBC .ZPX 2 4 (.byteOperand .sbcZpx),
  row 0xF6#8 .INC .ZPX 2 6 (.byteOperand .incZpx),
  row 0xF8#8 .SED .IMP 1 2 (.noOperand .sed),
  row 0xF9#8 .SBC .ABY 3 4 (.wordOperand .sbcAby),
  row 0xFD#8 .SBC .ABX 3 4 (.wordOperand .sbcAbx),
  row 0xFE#8 .INC .ABX 3 7 (.wordOperand .incAbx)]

/-- The opcode table (R84, R86): 151 rows, built once and never mutated. Cycle counts are R269's, informative only. -/
def opcodeTable : List Row :=
  opcodeRow0 ++ opcodeRow1 ++ opcodeRow2 ++ opcodeRow3 ++ opcodeRow4 ++ opcodeRow5 ++ opcodeRow6 ++ opcodeRow7 ++
  opcodeRow8 ++ opcodeRow9 ++ opcodeRowA ++ opcodeRowB ++ opcodeRowC ++ opcodeRowD ++ opcodeRowE ++ opcodeRowF

/-- The row of the matrix of R87 for a high nibble. -/
def opcodeMatrix : Nat → List Row
  | 0x0 => opcodeRow0
  | 0x1 => opcodeRow1
  | 0x2 => opcodeRow2
  | 0x3 => opcodeRow3
  | 0x4 => opcodeRow4
  | 0x5 => opcodeRow5
  | 0x6 => opcodeRow6
  | 0x7 => opcodeRow7
  | 0x8 => opcodeRow8
  | 0x9 => opcodeRow9
  | 0xA => opcodeRowA
  | 0xB => opcodeRowB
  | 0xC => opcodeRowC
  | 0xD => opcodeRowD
  | 0xE => opcodeRowE
  | 0xF => opcodeRowF
  | _ => []

/-- `lookup(byte)` (R80, R88): the row of an opcode byte, found in the matrix row of its high nibble; none for the 105 bytes
that have no descriptor. -/
def lookup (op : Byte) : Option Row :=
  (opcodeMatrix (op.toNat / 16)).find? fun r => r.descriptor.opcode == op

/-- Why bytes are not an instruction. -/
inductive DecodeReject where
  /-- There is no byte to decode. -/
  | noBytes
  /-- The opcode byte has no table entry (R88). -/
  | unknownOpcode (op : Byte)
  /-- The bytes end before the operand of `op` does. -/
  | truncated (op : Byte)
  deriving DecidableEq, Repr

/-- Decoding, total on any bytes: the instruction and the bytes after it, or a rejection by name. Every operand byte is
accepted (R89); a two-byte operand is little-endian (R55). -/
def decode : List Byte → Except DecodeReject (Instr × List Byte)
  | [] => .error .noBytes
  | op :: rest =>
    match lookup op with
    | none => .error (.unknownOpcode op)
    | some r =>
      match r.assembly, rest with
      | .noOperand i, rest => .ok (i, rest)
      | .byteOperand make, b :: rest => .ok (make b, rest)
      | .byteOperand _, [] => .error (.truncated op)
      | .wordOperand make, lo :: hi :: rest => .ok (make (mkWord hi lo), rest)
      | .wordOperand _, [_] => .error (.truncated op)
      | .wordOperand _, [] => .error (.truncated op)

/-- The operand bytes of an operand, in address order (R55, R82). -/
def Operand.bytes : Operand → List Byte
  | .imp => []
  | .acc => []
  | .imm m => [m]
  | .zp b => [b]
  | .zpx b => [b]
  | .zpy b => [b]
  | .abs w => [loByte w, hiByte w]
  | .abx w => [loByte w, hiByte w]
  | .aby w => [loByte w, hiByte w]
  | .ind w => [loByte w, hiByte w]
  | .izx b => [b]
  | .izy b => [b]
  | .rel b => [b]

/-- The opcode byte of an instruction: its cell in the map of R86. -/
def Instr.opcode : Instr → Byte
  | .adcImm _ => 0x69#8
  | .adcZp _ => 0x65#8
  | .adcZpx _ => 0x75#8
  | .adcAbs _ => 0x6D#8
  | .adcAbx _ => 0x7D#8
  | .adcAby _ => 0x79#8
  | .adcIzx _ => 0x61#8
  | .adcIzy _ => 0x71#8
  | .andImm _ => 0x29#8
  | .andZp _ => 0x25#8
  | .andZpx _ => 0x35#8
  | .andAbs _ => 0x2D#8
  | .andAbx _ => 0x3D#8
  | .andAby _ => 0x39#8
  | .andIzx _ => 0x21#8
  | .andIzy _ => 0x31#8
  | .aslAcc => 0x0A#8
  | .aslZp _ => 0x06#8
  | .aslZpx _ => 0x16#8
  | .aslAbs _ => 0x0E#8
  | .aslAbx _ => 0x1E#8
  | .bccRel _ => 0x90#8
  | .bcsRel _ => 0xB0#8
  | .beqRel _ => 0xF0#8
  | .bitZp _ => 0x24#8
  | .bitAbs _ => 0x2C#8
  | .bmiRel _ => 0x30#8
  | .bneRel _ => 0xD0#8
  | .bplRel _ => 0x10#8
  | .brk => 0x00#8
  | .bvcRel _ => 0x50#8
  | .bvsRel _ => 0x70#8
  | .clc => 0x18#8
  | .cld => 0xD8#8
  | .cli => 0x58#8
  | .clv => 0xB8#8
  | .cmpImm _ => 0xC9#8
  | .cmpZp _ => 0xC5#8
  | .cmpZpx _ => 0xD5#8
  | .cmpAbs _ => 0xCD#8
  | .cmpAbx _ => 0xDD#8
  | .cmpAby _ => 0xD9#8
  | .cmpIzx _ => 0xC1#8
  | .cmpIzy _ => 0xD1#8
  | .cpxImm _ => 0xE0#8
  | .cpxZp _ => 0xE4#8
  | .cpxAbs _ => 0xEC#8
  | .cpyImm _ => 0xC0#8
  | .cpyZp _ => 0xC4#8
  | .cpyAbs _ => 0xCC#8
  | .decZp _ => 0xC6#8
  | .decZpx _ => 0xD6#8
  | .decAbs _ => 0xCE#8
  | .decAbx _ => 0xDE#8
  | .dex => 0xCA#8
  | .dey => 0x88#8
  | .eorImm _ => 0x49#8
  | .eorZp _ => 0x45#8
  | .eorZpx _ => 0x55#8
  | .eorAbs _ => 0x4D#8
  | .eorAbx _ => 0x5D#8
  | .eorAby _ => 0x59#8
  | .eorIzx _ => 0x41#8
  | .eorIzy _ => 0x51#8
  | .incZp _ => 0xE6#8
  | .incZpx _ => 0xF6#8
  | .incAbs _ => 0xEE#8
  | .incAbx _ => 0xFE#8
  | .inx => 0xE8#8
  | .iny => 0xC8#8
  | .jmpAbs _ => 0x4C#8
  | .jmpInd _ => 0x6C#8
  | .jsrAbs _ => 0x20#8
  | .ldaImm _ => 0xA9#8
  | .ldaZp _ => 0xA5#8
  | .ldaZpx _ => 0xB5#8
  | .ldaAbs _ => 0xAD#8
  | .ldaAbx _ => 0xBD#8
  | .ldaAby _ => 0xB9#8
  | .ldaIzx _ => 0xA1#8
  | .ldaIzy _ => 0xB1#8
  | .ldxImm _ => 0xA2#8
  | .ldxZp _ => 0xA6#8
  | .ldxZpy _ => 0xB6#8
  | .ldxAbs _ => 0xAE#8
  | .ldxAby _ => 0xBE#8
  | .ldyImm _ => 0xA0#8
  | .ldyZp _ => 0xA4#8
  | .ldyZpx _ => 0xB4#8
  | .ldyAbs _ => 0xAC#8
  | .ldyAbx _ => 0xBC#8
  | .lsrAcc => 0x4A#8
  | .lsrZp _ => 0x46#8
  | .lsrZpx _ => 0x56#8
  | .lsrAbs _ => 0x4E#8
  | .lsrAbx _ => 0x5E#8
  | .nop => 0xEA#8
  | .oraImm _ => 0x09#8
  | .oraZp _ => 0x05#8
  | .oraZpx _ => 0x15#8
  | .oraAbs _ => 0x0D#8
  | .oraAbx _ => 0x1D#8
  | .oraAby _ => 0x19#8
  | .oraIzx _ => 0x01#8
  | .oraIzy _ => 0x11#8
  | .pha => 0x48#8
  | .php => 0x08#8
  | .pla => 0x68#8
  | .plp => 0x28#8
  | .rolAcc => 0x2A#8
  | .rolZp _ => 0x26#8
  | .rolZpx _ => 0x36#8
  | .rolAbs _ => 0x2E#8
  | .rolAbx _ => 0x3E#8
  | .rorAcc => 0x6A#8
  | .rorZp _ => 0x66#8
  | .rorZpx _ => 0x76#8
  | .rorAbs _ => 0x6E#8
  | .rorAbx _ => 0x7E#8
  | .rti => 0x40#8
  | .rts => 0x60#8
  | .sbcImm _ => 0xE9#8
  | .sbcZp _ => 0xE5#8
  | .sbcZpx _ => 0xF5#8
  | .sbcAbs _ => 0xED#8
  | .sbcAbx _ => 0xFD#8
  | .sbcAby _ => 0xF9#8
  | .sbcIzx _ => 0xE1#8
  | .sbcIzy _ => 0xF1#8
  | .sec => 0x38#8
  | .sed => 0xF8#8
  | .sei => 0x78#8
  | .staZp _ => 0x85#8
  | .staZpx _ => 0x95#8
  | .staAbs _ => 0x8D#8
  | .staAbx _ => 0x9D#8
  | .staAby _ => 0x99#8
  | .staIzx _ => 0x81#8
  | .staIzy _ => 0x91#8
  | .stxZp _ => 0x86#8
  | .stxZpy _ => 0x96#8
  | .stxAbs _ => 0x8E#8
  | .styZp _ => 0x84#8
  | .styZpx _ => 0x94#8
  | .styAbs _ => 0x8C#8
  | .tax => 0xAA#8
  | .tay => 0xA8#8
  | .tsx => 0xBA#8
  | .txa => 0x8A#8
  | .txs => 0x9A#8
  | .tya => 0x98#8

/-- Encoding: the opcode byte, then the operand bytes (R80, R82). -/
def encode (i : Instr) : List Byte := i.opcode :: i.operand.bytes

/-- The length of an instruction in bytes (R80). -/
def Instr.length (i : Instr) : Nat := i.form.length

/-- Byte `k` of a number whose bit 0 is the least significant bit of the first byte. -/
def tableByte (w k : Nat) : Byte := BitVec.ofNat 8 (w / 256 ^ k)

/-- The three bytes, the longest instruction there is (R80), of a word that `nbits` bits of the opcode table give; the bits
above are 0. -/
def tableBytes (nbits w : Nat) : List Byte :=
  let v := w % 2 ^ nbits
  [tableByte v 0, tableByte v 1, tableByte v 2]

/-- The instruction that `decode` reads from a word numbered as the opcode table numbers it. -/
def decodeTableWord (nbits w : Nat) : Option Instr :=
  match decode (tableBytes nbits w) with
  | .ok (i, _) => some i
  | .error _ => none

end Sys2Proof
end

