-- ==== Sys2Proof/Machine/Fetch.lean ====
section
/-! DEFINITION. Fetching an instruction (40_step_and_addressing.md rules R100 and R101): the opcode byte, the lookup, then the
operand bytes its row asks for, with PC advanced past each byte as it is fetched. -/
namespace Sys2Proof.Machine

/-- What a fetch finds. -/
inductive Fetched where
  /-- The byte `op`, fetched from `a0`, has no table entry; in `s`, PC is one past it and no operand byte was fetched. -/
  | unknown (op : Byte) (a0 : Word) (s : State)
  /-- The instruction `i`; in `s`, PC names the next sequential instruction (R25). -/
  | decoded (i : Instr) (s : State)
  deriving DecidableEq, Repr

/-- The fetch part of `step()` in R100, for a running core. -/
def State.fetchInstr (s : State) : Fetched :=
  let (op, s1) := s.fetch8
  match lookup op with
  | none => .unknown op s.pc s1
  | some r =>
    match r.assembly with
    | .noOperand i => .decoded i s1
    | .byteOperand make => let (b, s2) := s1.fetch8; .decoded (make b) s2
    | .wordOperand make => let (w, s2) := s1.fetch16; .decoded (make w) s2

/-- The three bytes from PC on, the longest an instruction can be (R80), addresses modulo 65536 (R55). -/
def State.bytesAtPc (s : State) : List Byte :=
  [s.readByte s.pc, s.readByte (s.pc + 1), s.readByte (s.pc + 2)]

/-- The bytes of a list stored at `addr` and on, modulo 65536 (R51). -/
def State.placeBytes (s : State) (bytes : List Byte) (addr : Word) : State :=
  { s with mem := s.mem.loadProgram bytes addr }

end Sys2Proof.Machine
end

