-- ==== Sys2Proof/Machine/Step.lean ====
section
/-! DEFINITION. The step (40_step_and_addressing.md rule R100) and the placing of a word where the step fetches next. -/
namespace Sys2Proof.Machine

/-- One step (R100): a no-op when halted (R31); otherwise fetch and decode, then raise UnknownOpcode (R231) or run the
instruction's meaning. The outcomes are a next state, a fault and a refusal; R102 leaves only the first. -/
def step (s : State) : Host.Outcome State Fault Refusal :=
  if s.halted then .next s
  else
    match s.fetchInstr with
    | .unknown op a0 s1 => .next (s1.raiseUnknownOpcode op a0)
    | .decoded i s1 => exec i s1

/-- The state with a table word, of `nbits` bits and zeros above, stored at PC, and running, so that the next step fetches
it. It stands for the host's load (R245); log entry 7. -/
def State.withFetchWord (s : State) (nbits w : Nat) : State :=
  { s.placeBytes (tableBytes nbits w) s.pc with halted := false }

end Sys2Proof.Machine
end

