-- ==== Sys2Proof/Machine/Bus.lean ====
section
/-! DEFINITION. The memory accesses of a step in their order (40_step_and_addressing.md rule R124, 20_memory.md R59). This is a
record read off the state before a step, not state of the machine: no access has a side effect (R53). -/
namespace Sys2Proof.Machine

/-- One access at the byte port (R51), with the value that passes. -/
inductive BusEvent where
  | read (addr : Word) (value : Byte)
  | write (addr : Word) (value : Byte)
  deriving DecidableEq, Repr

/-- What an access does to memory: a read changes nothing (R52). -/
def BusEvent.apply (m : Memory) : BusEvent → Memory
  | .read _ _ => m
  | .write addr v => m.write addr v

/-- Every read of a list of accesses shows the byte that memory holds when it is made, the earlier writes of the list
counted in (R63). -/
def readsShowMemory : Memory → List BusEvent → Prop
  | _, [] => True
  | m, .read addr v :: rest => m.read addr = v ∧ readsShowMemory m rest
  | m, .write addr v :: rest => readsShowMemory (m.write addr v) rest

/-- A read access at `addr`. -/
def State.readEvent (s : State) (addr : Word) : BusEvent := .read addr (s.readByte addr)

/-- The fetches of an instruction of `n` bytes: the opcode, then the operand bytes (R124, items 1 and 2). -/
def State.fetchEvents (s : State) (n : Nat) : List BusEvent :=
  (List.range n).map fun k => s.readEvent (s.pc + BitVec.ofNat 16 k)

/-- The two reads of the zero-page pointer at `p`, low byte first (R114). -/
def State.zpPtrEvents (s : State) (p : Byte) : List BusEvent :=
  [s.readEvent (zext16 p), s.readEvent (zpPtrHigh p s)]

/-- The pointer reads of IND, IZX and IZY, low byte first (R124, item 3). -/
def State.pointerEvents (s : State) : Operand → List BusEvent
  | .ind w => [s.readEvent w, s.readEvent (w + 1)]
  | .izx b => s.zpPtrEvents (b + s.x)
  | .izy b => s.zpPtrEvents b
  | .imp | .acc | .imm _ | .zp _ | .zpx _ | .zpy _ | .abs _ | .abx _ | .aby _ | .rel _ => []

/-- The accesses at the effective address of an operand; none for a form that has no address. -/
def State.atAddress (s : State) (o : Operand) (accesses : Word → List BusEvent) : List BusEvent :=
  match o.address? s with
  | some ea => accesses ea
  | none => []

/-- The read and then the write of a read-modify-write instruction (R117). -/
def State.modifyEvents (s : State) (o : Operand) (f : Byte → Byte) : List BusEvent :=
  s.atAddress o fun ea => [s.readEvent ea, .write ea (f (s.readByte ea))]

/-- The data and stack accesses of an instruction (R59; R124, items 4 and 5), in the state after its operand fetch. -/
def State.dataEvents (s : State) (i : Instr) : List BusEvent :=
  match i.mnemonic with
  | .LDA | .LDX | .LDY | .ADC | .SBC | .AND | .ORA | .EOR | .BIT | .CMP | .CPX | .CPY =>
    s.atAddress i.operand fun ea => [s.readEvent ea]
  | .STA => s.atAddress i.operand fun ea => [.write ea s.a]
  | .STX => s.atAddress i.operand fun ea => [.write ea s.x]
  | .STY => s.atAddress i.operand fun ea => [.write ea s.y]
  | .INC => s.modifyEvents i.operand fun v => v + 1
  | .DEC => s.modifyEvents i.operand fun v => v - 1
  | .ASL => s.modifyEvents i.operand fun v => (aslOp v s.p.c).result
  | .LSR => s.modifyEvents i.operand fun v => (lsrOp v s.p.c).result
  | .ROL => s.modifyEvents i.operand fun v => (rolOp v s.p.c).result
  | .ROR => s.modifyEvents i.operand fun v => (rorOp v s.p.c).result
  | .PHA => [.write (stackAddr s.sp) s.a]
  | .PHP => [.write (stackAddr s.sp) s.p.pushed]
  | .PLA | .PLP => [s.readEvent (stackAddr (s.sp + 1))]
  | .JSR =>
    match s.cfg.linkage with
    | .halting => []
    | .hardware =>
      [.write (stackAddr s.sp) (hiByte (s.pc - 1)), .write (stackAddr (s.sp - 1)) (loByte (s.pc - 1))]
  | .RTS =>
    match s.cfg.linkage with
    | .halting => []
    | .hardware => [s.readEvent (stackAddr (s.sp + 1)), s.readEvent (stackAddr (s.sp + 2))]
  | .RTI =>
    [s.readEvent (stackAddr (s.sp + 1)), s.readEvent (stackAddr (s.sp + 2)), s.readEvent (stackAddr (s.sp + 3))]
  | .JMP | .BCC | .BCS | .BEQ | .BNE | .BMI | .BPL | .BVC | .BVS => []
  | .TAX | .TAY | .TXA | .TYA | .TSX | .TXS | .INX | .INY | .DEX | .DEY => []
  | .CLC | .SEC | .CLD | .SED | .CLI | .SEI | .CLV | .NOP | .BRK => []

/-- The accesses of the step from `s`, in order (R101, R124): none when halted (R31), the opcode fetch alone when the byte
is unknown (R231). -/
def State.stepTrace (s : State) : List BusEvent :=
  if s.halted then []
  else
    match s.fetchInstr with
    | .unknown _ _ _ => s.fetchEvents 1
    | .decoded i s1 => s.fetchEvents i.length ++ s1.pointerEvents i.operand ++ s1.dataEvents i

/-- The accesses of reset: the two bytes of the reset vector, and no write (R260). -/
def State.resetTrace (s : State) : List BusEvent :=
  [s.readEvent resetVector, s.readEvent (resetVector + 1)]

end Sys2Proof.Machine
end

