-- ==== Sys2Proof/Machine/HostInterface.lean ====
section
/-! DEFINITION. What the host may do to the core between steps (60_exceptions.md rule R245): boot a program, apply reset, invoke
one step. Observing is reading the fields of State, and bounding a run is stopping to invoke step; neither is an action. -/
namespace Sys2Proof.Machine

/-- The host's actions of R245 that change the core. -/
inductive HostAction where
  /-- Load a program, point the reset vector at it and apply reset (R264); it begins a run. -/
  | boot (program : List Byte) (start : Word)
  /-- Apply reset, between any two steps, running or halted (R262). -/
  | reset
  /-- Invoke one step (R100). -/
  | step
  deriving DecidableEq, Repr

/-- The effect of one action. -/
def hostAct (s : State) : HostAction → Result
  | .boot program start => .next (s.boot program start)
  | .reset => .next s.applyReset
  | .step => step s

/-- The effect of a list of actions, in order, up to the first fault or refusal. -/
def hostActs : State → List HostAction → Result
  | s, [] => .next s
  | s, a :: rest =>
    match hostAct s a with
    | .next t => hostActs t rest
    | .fault r => .fault r
    | .refused r => .refused r

end Sys2Proof.Machine
end

