-- ==== Sys2Proof/Safety.lean ====
section
/-! DEFINITION. What a safe run is: the invariant of the state, and how a host tells the three halts apart
(60_exceptions.md rules R232 and R238, 10_state.md R31 and R32). -/
namespace Sys2Proof.Machine

/-- The invariant: memory is in canonical form; a diagnostic record stands only in a halted core (R231, R241); and B is set
only in a core that halted without a record, which is BRK's halt (R223, R232, R238). -/
def State.Inv (s : State) : Prop :=
  s.mem.wf = true ∧ (s.fault ≠ none → s.halted = true) ∧ (s.p.b = true → s.halted = true ∧ s.fault = none)

/-- The three causes of a halt (R238). -/
inductive HaltCause where
  | unknownOpcode (byte : Byte) (address : Word)
  | brk
  | rts
  deriving DecidableEq, Repr

/-- The cause of the halt, as the table of R238 lets a host read it; none while running. -/
def haltCause (s : State) : Option HaltCause :=
  if s.halted then
    match s.fault with
    | some r => some (.unknownOpcode r.byte r.address)
    | none => if s.p.b then some .brk else some .rts
  else none

/-- A step that ends in a next state: neither a fault nor a refusal (R102). -/
def stepCompletes (s : State) : Prop := ∃ t, step s = .next t

end Sys2Proof.Machine
end

