-- ==== Sys2Proof/Certificates/Slice0/Obligations.lean ====
section
/-! DEFINITION. The statements for the provers. Each formalises rules of spec/ or, where its docstring says so, a consequence of
them. A claim about an instruction gives the whole next state, or the whole of it but for memory and then every byte of
memory, so it carries its frame. In a claim about `exec`, PC already names the next sequential instruction (R25, R101). A
docstring that names D<n> says that the clause is the spec's own choice, made in 92_eei_decisions.md, and not the source's. -/

namespace Sys2Proof.Claims
open Sys2Proof Sys2Proof.Machine

/-! ## The words the statements use, written from the rules and not from the model's own helpers -/

/-- Z and N of a result: Z iff the byte is 0, N iff its bit 7 is 1, that is iff it is at least 128 (R118). -/
def withZN (p : Flags) (v : Byte) : Flags := { p with z := decide (v.toNat = 0), n := decide (128 ≤ v.toNat) }

/-- Memory reads in `t` as in `s` but for the byte `v` at `ea`. -/
def OnlyByteAt (s t : State) (ea : Word) (v : Byte) : Prop :=
  t.readByte ea = v ∧ ∀ a : Word, a ≠ ea → t.readByte a = s.readByte a

/-- Everything but memory is in `t` as in `s`. -/
def SameButMemory (s t : State) : Prop := { t with mem := s.mem } = s

/-- A number as an address, modulo 65536. -/
def addr (n : Nat) : Word := BitVec.ofNat 16 n

/-- The 105 bytes that have no descriptor, by high nibble, as R88 lists them. -/
def unknownBytes : List Nat :=
  [0x02, 0x03, 0x04, 0x07, 0x0B, 0x0C, 0x0F] ++ [0x12, 0x13, 0x14, 0x17, 0x1A, 0x1B, 0x1C, 0x1F] ++
  [0x22, 0x23, 0x27, 0x2B, 0x2F] ++ [0x32, 0x33, 0x34, 0x37, 0x3A, 0x3B, 0x3C, 0x3F] ++
  [0x42, 0x43, 0x44, 0x47, 0x4B, 0x4F] ++ [0x52, 0x53, 0x54, 0x57, 0x5A, 0x5B, 0x5C, 0x5F] ++
  [0x62, 0x63, 0x64, 0x67, 0x6B, 0x6F] ++ [0x72, 0x73, 0x74, 0x77, 0x7A, 0x7B, 0x7C, 0x7F] ++
  [0x80, 0x82, 0x83, 0x87, 0x89, 0x8B, 0x8F] ++ [0x92, 0x93, 0x97, 0x9B, 0x9C, 0x9E, 0x9F] ++
  [0xA3, 0xA7, 0xAB, 0xAF] ++ [0xB2, 0xB3, 0xB7, 0xBB, 0xBF] ++
  [0xC2, 0xC3, 0xC7, 0xCB, 0xCF] ++ [0xD2, 0xD3, 0xD4, 0xD7, 0xDA, 0xDB, 0xDC, 0xDF] ++
  [0xE2, 0xE3, 0xE7, 0xEB, 0xEF] ++ [0xF2, 0xF3, 0xF4, 0xF7, 0xFA, 0xFB, 0xFC, 0xFF]

/-- The effective address of the memory operand of `i` in `s`, for a form that has one. -/
def ea? (i : Instr) (s : State) : Option Word := i.operand.address? s

/-- The operand value M of `i` in `s`: the immediate byte or the byte at the effective address (R117). -/
def m? (i : Instr) (s : State) : Option Byte := i.operand.value? s

/-- The address of the high byte of the zero-page pointer at `p`, as R114 gives `q`. -/
def pointerHighAt (p : Nat) (zpPtrWrap : Bool) : Nat := if zpPtrWrap then (p + 1) % 256 else p + 1

/-- `ZpPtr(p)` of R114 as a number. -/
def pointerAt (s : State) (p : Nat) : Nat :=
  (s.readByte (addr p)).toNat + 256 * (s.readByte (addr (pointerHighAt p s.cfg.zpPtrWrap))).toNat

/-- The condition of a branch mnemonic (R191 to R198); none for another mnemonic. -/
def branchCondition (p : Flags) : Mnemonic → Option Bool
  | .BCC => some (!p.c)
  | .BCS => some p.c
  | .BEQ => some p.z
  | .BNE => some (!p.z)
  | .BMI => some p.n
  | .BPL => some (!p.n)
  | .BVC => some (!p.v)
  | .BVS => some p.v
  | _ => none

/-- The function `f(v, cin) = (r, cout)` of a shift mnemonic on numbers, as R181 to R184 give it. -/
def shiftOf (m : Mnemonic) (v cin : Nat) : Option (Nat × Nat) :=
  match m with
  | .ASL => some (v * 2 % 256, v / 128)
  | .LSR => some (v / 2, v % 2)
  | .ROL => some (v * 2 % 256 + cin, v / 128)
  | .ROR => some (v / 2 + 128 * cin, v % 2)
  | _ => none

/-- The instructions that write N and Z through `setZN` (R29). -/
def setsZN : List Mnemonic :=
  [.LDA, .LDX, .LDY, .TAX, .TAY, .TXA, .TYA, .TSX, .PLA, .AND, .ORA, .EOR, .ADC, .SBC, .CMP, .CPX, .CPY, .INC, .DEC,
   .INX, .INY, .DEX, .DEY, .ASL, .LSR, .ROL, .ROR]

/-- The branches. -/
def branches : List Mnemonic := [.BCC, .BCS, .BEQ, .BNE, .BMI, .BPL, .BVC, .BVS]

/-- The word at `ea`, `ea + 1` as a number, little-endian (R54). -/
def word16At (s : State) (ea : Word) : Nat := (s.readByte ea).toNat + 256 * (s.readByte (ea + 1)).toNat

/-- One access without its value: whether it writes, and its address. -/
inductive Access where
  | reads (a : Word)
  | writes (a : Word)
  deriving DecidableEq, Repr

/-- The accesses of a list of bus events. -/
def accesses (events : List BusEvent) : List Access :=
  events.map fun
    | .read a _ => .reads a
    | .write a _ => .writes a

/-- The address in the stack page that an SP of `n` modulo 256 denotes (R23). -/
def stackAt (n : Nat) : Word := addr (256 + n % 256)

/-- The pointer accesses of an operand (R124, item 3): low byte, then high byte. -/
def pointerAccesses (s : State) : Operand → List Access
  | .ind w => [.reads w, .reads (addr (w.toNat + 1))]
  | .izx b =>
    let p := (b.toNat + s.x.toNat) % 256
    [.reads (addr p), .reads (addr (pointerHighAt p s.cfg.zpPtrWrap))]
  | .izy b => [.reads (addr b.toNat), .reads (addr (pointerHighAt b.toNat s.cfg.zpPtrWrap))]
  | _ => []

/-- The data accesses of an instruction, by the classes of R59's table. An operand form without an effective address (IMM,
ACC) makes none; JSR and RTS make none under LINKAGE = halting. -/
def dataAccesses (s : State) (i : Instr) : List Access :=
  let ea := (ea? i s).toList
  let sp := s.sp.toNat
  match i.mnemonic with
  | .LDA | .LDX | .LDY | .ADC | .SBC | .AND | .ORA | .EOR | .BIT | .CMP | .CPX | .CPY => ea.map Access.reads
  | .STA | .STX | .STY => ea.map Access.writes
  | .INC | .DEC | .ASL | .LSR | .ROL | .ROR => ea.map Access.reads ++ ea.map Access.writes
  | .PHA | .PHP => [Access.writes (stackAt sp)]
  | .PLA | .PLP => [Access.reads (stackAt (sp + 1))]
  | .RTI => [Access.reads (stackAt (sp + 1)), Access.reads (stackAt (sp + 2)), Access.reads (stackAt (sp + 3))]
  | .JSR =>
    if s.cfg.linkage = .halting then [] else [Access.writes (stackAt sp), Access.writes (stackAt (sp + 255))]
  | .RTS =>
    if s.cfg.linkage = .halting then [] else [Access.reads (stackAt (sp + 1)), Access.reads (stackAt (sp + 2))]
  | _ => []

/-- The state `f` leads to, or the same stop where there is none. -/
def thenRun (r : Result) (f : State → Result) : Result :=
  match r with
  | .next t => f t
  | .fault e => .fault e
  | .refused e => .refused e

end Sys2Proof.Claims

open Sys2Proof Sys2Proof.Machine Sys2Proof.Claims

/-! ## Reset and the host interface -/

/-- R260: reset leaves every register, flag, the run state and the record at its stated value and memory as it was; it reads
exactly the two bytes of the vector. That it may be applied to any state and clears the record is D17; that memory is
whatever stood there (MEM0) is D19. -/
def Obligations.ResetLeavesTheStatedValues : Prop :=
  ∀ s : State,
    s.applyReset.a = 0x00#8 ∧ s.applyReset.x = 0x00#8 ∧ s.applyReset.y = 0x00#8 ∧ s.applyReset.sp = 0xFD#8 ∧
    s.applyReset.pc.toNat = (s.readByte 0xFFFC#16).toNat + 256 * (s.readByte 0xFFFD#16).toNat ∧
    s.applyReset.p = { n := false, v := false, b := false, d := false, i := false, z := false, c := false } ∧
    s.applyReset.halted = false ∧ s.applyReset.fault = none ∧
    s.applyReset.mem = s.mem ∧
    s.resetTrace = [.read 0xFFFC#16 (s.readByte 0xFFFC#16), .read 0xFFFD#16 (s.readByte 0xFFFD#16)]

/-- The fixed reset state meets the invariant, is what reset leaves of itself, and runs from 0x0000. That its memory lists
nothing and reads 0x00 everywhere is the model's choice (log entry 1), its parameters are R6's defaults (log entry 2). -/
def Obligations.ResetStateMeetsInvariant : Prop :=
  State.reset.Inv ∧ State.reset.applyReset = State.reset ∧ State.reset.pc = 0x0000#16 ∧
  (∀ a : Word, State.reset.readByte a = 0x00#8) ∧ State.reset.cfg = { linkage := .halting, zpPtrWrap := false }

/-- R264, steps 1 to 3: after the boot sequence of an image that ends below the reset vector, PC is the load address, the
image's bytes stand from there on, the vector holds the load address, and every other byte is as before. -/
def Obligations.BootStartsAtTheLoadAddress : Prop :=
  ∀ (s : State) (image : List Byte) (start : Word), start.toNat + image.length ≤ 0xFFFC →
    (s.boot image start).pc = start ∧
    (∀ k (h : k < image.length), (s.boot image start).readByte (addr (start.toNat + k)) = image[k]) ∧
    (s.boot image start).readWord 0xFFFC#16 = start ∧
    (∀ a : Word, a.toNat < 0xFFFC ∨ 0xFFFD < a.toNat →
      (∀ k, k < image.length → a ≠ addr (start.toNat + k)) → (s.boot image start).readByte a = s.readByte a) ∧
    (s.boot image start).halted = false ∧ (s.boot image start).fault = none ∧
    (s.boot image start).cfg = s.cfg

/-- Every sequence of the host's actions (R245) ends in a next state and keeps the model's invariant (Safety.lean), and after a
boot or a reset the invariant holds whatever the registers, flags and run state were. -/
def Obligations.HostActionsKeepInvariant : Prop :=
  (∀ (acts : List HostAction) (s : State), s.Inv → ∃ t, hostActs s acts = .next t ∧ t.Inv) ∧
  (∀ (s : State) (image : List Byte) (start : Word), s.mem.wf = true →
    s.applyReset.Inv ∧ (s.boot image start).Inv)

/-! ## Memory -/

/-- R52: a byte written is the byte read, a write changes no other address, and a read is repeatable. Every address answers:
the port has no outcome but a byte. The last clause is no sentence of the spec: that a canonical memory stays canonical is
about the model's own representation (`Memory.wf` over `Memory.unlisted`, log entries 1 and 14). -/
def Obligations.ByteWrittenIsByteRead : Prop :=
  ∀ (s : State) (a : Word) (v : Byte),
    OnlyByteAt s (s.writeByte a v) a v ∧ SameButMemory s (s.writeByte a v) ∧
    (s.mem.wf = true → (s.writeByte a v).mem.wf = true)

/-- R54 and R56: the 16-bit port is two byte accesses, low byte at the address and high byte at the next address modulo
65536. The wrap at 0xFFFF is D6. -/
def Obligations.WordAccessIsTwoByteAccesses : Prop :=
  ∀ (m : Memory) (a w : Word),
    (m.write16 a w).read16 a = w ∧
    ((m.write16 a w).read a).toNat = w.toNat % 256 ∧
    ((m.write16 a w).read (addr ((a.toNat + 1) % 65536))).toNat = w.toNat / 256 ∧
    (∀ b : Word, b ≠ a → b ≠ addr ((a.toNat + 1) % 65536) → (m.write16 a w).read b = m.read b) ∧
    (m.read16 a).toNat = (m.read a).toNat + 256 * (m.read (addr ((a.toNat + 1) % 65536))).toNat

/-- R52 together with the canonical form: a write and then the same write is one write, writes to two addresses commute,
and writing back the byte that was read changes nothing, as data and not only as reads. -/
def Obligations.EqualMemoriesAreEqualData : Prop :=
  ∀ m : Memory, m.wf = true → ∀ (a b : Word) (v w : Byte),
    (m.write a v).write a w = m.write a w ∧
    (a ≠ b → (m.write a v).write b w = (m.write b w).write a v) ∧
    m.write a (m.read a) = m

/-! ## Encoding -/

/-- Decoding an encoded instruction gives it back, with every operand at every value, and the bytes after it (R80 to R83,
R86); every instruction is well formed (R89). -/
def Obligations.DecodeInvertsEncode : Prop :=
  (∀ i : Instr, i.wf = true) ∧
  ∀ (i : Instr) (rest : List Byte), i.wf = true → decode (encode i ++ rest) = .ok (i, rest)

/-- Whatever decodes is the encoding of what it decodes to: no two instructions share bytes, and none is a prefix of
another (R80, R90). -/
def Obligations.EncodeInvertsDecode : Prop :=
  (∀ (bytes rest : List Byte) (i : Instr), decode bytes = .ok (i, rest) → bytes = encode i ++ rest) ∧
  (∀ (i j : Instr) (r q : List Byte), encode i ++ r = encode j ++ q → i = j ∧ r = q)

/-- R88: a byte has no descriptor exactly when it is one of the 105 listed, whatever bytes follow it. Which bytes are
documented is D2. -/
def Obligations.UnknownOpcodesAreTheListedBytes : Prop :=
  unknownBytes.length = 105 ∧
  ∀ (op : Byte) (rest : List Byte),
    (decode (op :: rest) = .error (.unknownOpcode op) ↔ op.toNat ∈ unknownBytes) ∧
    (op.toNat ∉ unknownBytes → ∃ r, lookup op = some r ∧ r.descriptor.opcode = op)

/-- R81: the length is a function of the form, 1 to 3 bytes, and it is the number of bytes of the encoding. -/
def Obligations.LengthIsDecidedByTheForm : Prop :=
  ∀ i : Instr,
    (encode i).length = i.length ∧ 1 ≤ i.length ∧ i.length ≤ 3 ∧
    (i.form ∈ [Form.IMP, Form.ACC] → i.length = 1) ∧
    (i.form ∈ [Form.IMM, Form.ZP, Form.ZPX, Form.ZPY, Form.IZX, Form.IZY, Form.REL] → i.length = 2) ∧
    (i.form ∈ [Form.ABS, Form.ABX, Form.ABY, Form.IND] → i.length = 3)

/-- A few words written out from the map of R86 (D2), at least one from each family, decode to what they stand for. -/
def Obligations.SampleWordsDecode : Prop :=
  decode [0xA9#8, 0x05#8] = .ok (.ldaImm 0x05#8, []) ∧
  decode [0x69#8, 0x03#8, 0x00#8] = .ok (.adcImm 0x03#8, [0x00#8]) ∧
  decode [0x9D#8, 0x34#8, 0x12#8] = .ok (.staAbx 0x1234#16, []) ∧
  decode [0x7E#8, 0xF0#8, 0xFF#8] = .ok (.rorAbx 0xFFF0#16, []) ∧
  decode [0x6C#8, 0xFF#8, 0x12#8] = .ok (.jmpInd 0x12FF#16, []) ∧
  decode [0xD0#8, 0xF9#8] = .ok (.bneRel 0xF9#8, []) ∧
  decode [0x28#8] = .ok (.plp, []) ∧ decode [0x00#8] = .ok (.brk, []) ∧
  decode [0x02#8, 0x11#8, 0x22#8] = .error (.unknownOpcode 0x02#8)

/-! ## The step -/

/-- R100: a halted step changes nothing; where the byte at PC has no descriptor the step raises UnknownOpcode with PC one
past it; and where the bytes at PC decode to an instruction, the step is that instruction's meaning in the state whose PC
is moved past the instruction's bytes (R25). That PC ends one past the byte after UnknownOpcode is D16 (conflict C5, log
entry 5); that operand bytes past 0xFFFF are fetched from 0x0000 on is D6 (log entry 6). -/
def Obligations.StepRunsTheDecodedInstruction : Prop :=
  ∀ s : State,
    (s.halted = true → step s = .next s) ∧
    (s.halted = false → ∀ op : Byte, decode s.bytesAtPc = .error (.unknownOpcode op) →
      op = s.readByte s.pc ∧
      step s = .next (({ s with pc := s.pc + 1 } : State).raiseUnknownOpcode op s.pc)) ∧
    (s.halted = false → ∀ (i : Instr) (rest : List Byte), decode s.bytesAtPc = .ok (i, rest) →
      step s = exec i { s with pc := s.pc + BitVec.ofNat 16 (encode i).length })

/-- The model's own placing of a word (log entry 7): from every state, a table word that decodes to an instruction and is
placed by `withFetchWord` is what the very next step runs, and nothing but memory and the run state was touched. -/
def Obligations.PlacedWordIsTheNextInstruction : Prop :=
  ∀ (s : State) (nbits w : Nat) (i : Instr), decodeTableWord nbits w = some i →
    let placed := s.withFetchWord nbits w
    placed = { s with mem := placed.mem, halted := false } ∧
    step placed = exec i { placed with pc := s.pc + BitVec.ofNat 16 (encode i).length }

/-- R231: one of the listed bytes at PC halts the core with the record filled; nothing else is written and no operand byte is
fetched. That PC ends one past the byte is D16. -/
def Obligations.StepRaisesUnknownOpcode : Prop :=
  ∀ s : State, s.halted = false → (s.readByte s.pc).toNat ∈ unknownBytes →
    step s = .next { s with
      pc := s.pc + 1
      halted := true
      fault := some { kind := .unknownOpcode, byte := s.readByte s.pc, address := s.pc } } ∧
    s.stepTrace = [.read s.pc (s.readByte s.pc)]

/-- R240 and R31: no number of steps leaves the halted state or changes anything in it, and a halted step makes no memory
access. That reset may be applied to a halted core, and is the only exit from it, is D17 (R262). -/
def Obligations.HaltedCoreStaysHalted : Prop :=
  ∀ s : State, s.halted = true →
    (∀ k : Nat, Host.Core.run Sys2Proof.core k s = .next s) ∧ s.stepTrace = [] ∧ s.applyReset.halted = false

/-- R102: a step that dispatches always completes, for every instruction and from every state, and raises nothing: the record
is as it was. And no step and no run of steps answers a fault or a refusal: a halted step answers the same state (R31),
and that UnknownOpcode (R231) is a next state and no fault is the model's choice (log entry 12). So the
UnsupportedAddressingMode of R233, which by D25 has no transition, cannot arise. -/
def Obligations.EveryStepCompletes : Prop :=
  (∀ (i : Instr) (s : State), ∃ t, exec i s = .next t ∧ t.fault = s.fault) ∧ (∀ s : State, stepCompletes s) ∧
  (∀ (s : State) (k : Nat), ∃ t, Host.Core.run Sys2Proof.core k s = .next t)

/-- The invariant of Safety.lean is kept by every step: memory stays canonical, a record stands only in a halted core, and B
is set only by the halt of BRK (R231, R232, R241). -/
def Obligations.InvariantKeptByEveryStep : Prop :=
  ∀ s t : State, s.Inv → step s = .next t → t.Inv

/-- R238 and R31: a running core becomes halted in exactly three ways, and the table's columns hold: the record, P.B, the PC
afterwards, and nothing else written; a host reads the cause back from the record and P.B. What BRK leaves unchanged is
D12, the PC after UnknownOpcode is D16, telling the halts apart is D29. -/
def Obligations.HaltsInExactlyThreeWays : Prop :=
  ∀ s t : State, s.Inv → s.halted = false → step s = .next t →
    (t.halted = true ↔
      (s.readByte s.pc).toNat ∈ unknownBytes ∨ s.readByte s.pc = 0x00#8 ∨
        (s.readByte s.pc = 0x60#8 ∧ s.cfg.linkage = .halting)) ∧
    ((s.readByte s.pc).toNat ∈ unknownBytes →
      haltCause t = some (.unknownOpcode (s.readByte s.pc) s.pc) ∧
      t = { s with
        pc := s.pc + 1
        halted := true
        fault := some { kind := .unknownOpcode, byte := s.readByte s.pc, address := s.pc } }) ∧
    (s.readByte s.pc = 0x00#8 →
      haltCause t = some .brk ∧ t = { s with pc := s.pc + 1, halted := true, p := { s.p with b := true } }) ∧
    (s.readByte s.pc = 0x60#8 → s.cfg.linkage = .halting →
      haltCause t = some .rts ∧ t = { s with pc := s.pc + 1, halted := true })

/-- R63 on the access list of R124 (D24): a step changes memory by exactly the writes of its access list, in order, and every
read of that list shows the byte that memory holds at that moment. -/
def Obligations.StepTraceIsTheMemoryEffect : Prop :=
  ∀ s t : State, step s = .next t →
    t.mem = s.stepTrace.foldl BusEvent.apply s.mem ∧ readsShowMemory s.mem s.stepTrace

/-- R59 and R124 (D24): the accesses of a step are the fetches of the instruction's bytes, then the pointer reads of IND, IZX
and IZY, then the data accesses of its class, and no others. -/
def Obligations.StepMakesTheListedAccesses : Prop :=
  ∀ (s : State) (i : Instr) (rest : List Byte), s.halted = false → decode s.bytesAtPc = .ok (i, rest) →
    accesses s.stepTrace =
      ((List.range i.length).map fun k => Access.reads (addr (s.pc.toNat + k))) ++
        pointerAccesses s i.operand ++ dataAccesses s i

/-- R66 (D23): a store is seen by the very next fetch. `STA $nnnn` into the byte after itself makes A the next opcode. -/
def Obligations.StoreIsSeenByTheNextFetch : Prop :=
  ∀ s : State, s.halted = false → s.bytesAtPc = [0x8D#8, loByte (s.pc + 3), hiByte (s.pc + 3)] →
    ∃ t, step s = .next t ∧ t.pc = s.pc + 3 ∧ OnlyByteAt s t (s.pc + 3) s.a ∧
      (s.a.toNat ∈ unknownBytes → ∃ u, step t = .next u ∧
        u.fault = some { kind := .unknownOpcode, byte := s.a, address := s.pc + 3 }) ∧
      (s.a = 0xEA#8 → step t = .next { t with pc := s.pc + 4 })

/-! ## Who writes what: frames over all instructions -/

/-- R29: each flag is written only by the instructions its row names. -/
def Obligations.FlagsAreWrittenOnlyByTheirWriters : Prop :=
  ∀ (i : Instr) (s t : State), exec i s = .next t →
    (i.mnemonic ∉ setsZN ++ [.BIT, .PLP, .RTI] → t.p.n = s.p.n ∧ t.p.z = s.p.z) ∧
    (i.mnemonic ∉ [Mnemonic.ADC, .SBC, .BIT, .CLV, .PLP, .RTI] → t.p.v = s.p.v) ∧
    (i.mnemonic ∉ [Mnemonic.BRK, .PLP, .RTI] → t.p.b = s.p.b) ∧
    (i.mnemonic ∉ [Mnemonic.SED, .CLD, .PLP, .RTI] → t.p.d = s.p.d) ∧
    (i.mnemonic ∉ [Mnemonic.SEI, .CLI, .PLP, .RTI] → t.p.i = s.p.i) ∧
    (i.mnemonic ∉ [Mnemonic.ADC, .SBC, .CMP, .CPX, .CPY, .ASL, .LSR, .ROL, .ROR, .SEC, .CLC, .PLP, .RTI] →
      t.p.c = s.p.c)

/-- R21, R22 and R23: each register is written only by the instructions named for it, and an instruction that writes A, X or
Y also writes Z and N from the value written. -/
def Obligations.RegistersAreWrittenOnlyByTheirWriters : Prop :=
  ∀ (i : Instr) (s t : State), exec i s = .next t →
    ((i.mnemonic ∈ [Mnemonic.LDA, .ADC, .SBC, .AND, .ORA, .EOR, .PLA, .TXA, .TYA] ∨ i.form = .ACC) →
      t.p = withZN t.p t.a) ∧
    (¬ (i.mnemonic ∈ [Mnemonic.LDA, .ADC, .SBC, .AND, .ORA, .EOR, .PLA, .TXA, .TYA] ∨ i.form = .ACC) → t.a = s.a) ∧
    (i.mnemonic ∈ [Mnemonic.LDX, .TAX, .TSX, .INX, .DEX] → t.p = withZN t.p t.x) ∧
    (i.mnemonic ∉ [Mnemonic.LDX, .TAX, .TSX, .INX, .DEX] → t.x = s.x) ∧
    (i.mnemonic ∈ [Mnemonic.LDY, .TAY, .INY, .DEY] → t.p = withZN t.p t.y) ∧
    (i.mnemonic ∉ [Mnemonic.LDY, .TAY, .INY, .DEY] → t.y = s.y) ∧
    (i.mnemonic ∉ [Mnemonic.PHA, .PHP, .PLA, .PLP, .TXS, .RTI, .JSR, .RTS] → t.sp = s.sp) ∧
    (i.mnemonic ∈ [Mnemonic.JSR, .RTS] → s.cfg.linkage = .halting → t.sp = s.sp)

/-- R204, R59, R31 and R32: only control transfers write PC after the operand fetch; only stores, read-modify-write
instructions, pushes and, under LINKAGE = hardware, JSR write memory; only BRK and, under halting, RTS halt; no
instruction writes the record or the parameters. -/
def Obligations.OtherStateIsWrittenOnlyByItsWriters : Prop :=
  ∀ (i : Instr) (s t : State), exec i s = .next t →
    (i.mnemonic ∉ branches ++ [.JMP, .JSR, .RTS, .RTI] → t.pc = s.pc) ∧
    (i.mnemonic = .RTS → s.cfg.linkage = .halting → t.pc = s.pc) ∧
    (i.mnemonic ∉ [Mnemonic.STA, .STX, .STY, .INC, .DEC, .ASL, .LSR, .ROL, .ROR, .PHA, .PHP, .JSR] ∨ i.form = .ACC →
      t.mem = s.mem) ∧
    (i.mnemonic = .JSR → s.cfg.linkage = .halting → t.mem = s.mem) ∧
    (¬ (i.mnemonic = .BRK ∨ (i.mnemonic = .RTS ∧ s.cfg.linkage = .halting)) → t.halted = s.halted) ∧
    t.fault = s.fault ∧ t.cfg = s.cfg

/-- R30 (D9) and R235: D and I are storage only. Whatever they hold, every instruction but PHP does the same to everything
else, and PHP differs only in the byte it pushes. -/
def Obligations.DecimalAndInterruptFlagsAreInert : Prop :=
  ∀ (i : Instr) (s t : State) (d f : Bool), exec i s = .next t →
    ∃ u, exec i { s with p := { s.p with d := d, i := f } } = .next u ∧
      (i.mnemonic ≠ .PHP → { u with p := { u.p with d := t.p.d, i := t.p.i } } = t) ∧
      (i.mnemonic = .PHP → ({ u with mem := t.mem, p := { u.p with d := t.p.d, i := t.p.i } } = t) ∧
        ∀ a : Word, a ≠ stackAddr s.sp → u.readByte a = t.readByte a)

/-- R200 (D13): every instruction but JSR and RTS does the same under both values of LINKAGE. -/
def Obligations.LinkageMattersOnlyToCallAndReturn : Prop :=
  ∀ (i : Instr) (s t : State) (l : Linkage), i.mnemonic ≠ .JSR → i.mnemonic ≠ .RTS → exec i s = .next t →
    exec i { s with cfg := { s.cfg with linkage := l } } = .next { t with cfg := { t.cfg with linkage := l } }

/-- R114 (D7): the two values of ZP_PTR_WRAP differ only for an IZX or IZY instruction whose pointer sits at 0xFF. -/
def Obligations.PointerWrapMattersOnlyAtFF : Prop :=
  ∀ (i : Instr) (s t : State) (w : Bool),
    (∀ b, i.operand = .izx b → (b.toNat + s.x.toNat) % 256 ≠ 0xFF) → (∀ b, i.operand = .izy b → b.toNat ≠ 0xFF) →
    exec i s = .next t →
    exec i { s with cfg := { s.cfg with zpPtrWrap := w } } = .next { t with cfg := { t.cfg with zpPtrWrap := w } }

/-! ## Operand forms -/

/-- R107, R108 and R109: the zero-page forms never leave the zero page; the index wraps inside it. -/
def Obligations.ZeroPageFormsResolve : Prop :=
  ∀ (s : State) (b : Byte),
    (Operand.zp b).address? s = some (addr b.toNat) ∧
    (Operand.zpx b).address? s = some (addr ((b.toNat + s.x.toNat) % 256)) ∧
    (Operand.zpy b).address? s = some (addr ((b.toNat + s.y.toNat) % 256)) ∧
    (∀ o ∈ [Operand.zp b, .zpx b, .zpy b], ∀ ea, o.address? s = some ea → ea.toNat < 256)

/-- R110, R111 and R112: the absolute forms, their indexes unsigned with 16-bit wraparound. -/
def Obligations.AbsoluteFormsResolve : Prop :=
  ∀ (s : State) (w : Word),
    (Operand.abs w).address? s = some w ∧
    (Operand.abx w).address? s = some (addr ((w.toNat + s.x.toNat) % 65536)) ∧
    (Operand.aby w).address? s = some (addr ((w.toNat + s.y.toNat) % 65536))

/-- R116: the relative form. The target is the PC after the offset byte plus the offset read as a signed byte, modulo
65536, and it lies from -128 to +127 of that PC. -/
def Obligations.RelativeFormResolves : Prop :=
  ∀ (s : State) (b : Byte),
    let signed : Int := if b.toNat < 128 then b.toNat else (b.toNat : Int) - 256
    ((relTarget b s).toNat : Int) = ((s.pc.toNat : Int) + signed) % 65536 ∧ -128 ≤ signed ∧ signed ≤ 127

/-- R117 (with R106, D4): M is the immediate byte in the IMM form and the byte at the effective address in every other form
that has one; IMP, ACC and REL have neither. -/
def Obligations.OperandValueIsTheByteAtTheAddress : Prop :=
  ∀ (o : Operand) (s : State),
    (∀ m, o = .imm m → o.value? s = some m ∧ o.address? s = none) ∧
    (o.form ≠ .IMM → o.value? s = (o.address? s).map s.readByte) ∧
    (o.form ∈ [Form.IMP, .ACC, .IMM, .REL] ↔ o.address? s = none)

/-- R114 and R115: the pointer forms, under both values of ZP_PTR_WRAP. -/
def Obligations.PointerFormsResolve : Prop :=
  ∀ (s : State) (b : Byte),
    (Operand.izx b).address? s = some (addr (pointerAt s ((b.toNat + s.x.toNat) % 256))) ∧
    (Operand.izy b).address? s = some (addr ((pointerAt s b.toNat + s.y.toNat) % 65536))

/-- R130 on R106 to R115 from raw bytes (D2, D4, D6): a running core at the opcode byte of each LDA form loads the byte the
rules name, sets Z and N from it, leaves everything else, and ends past the instruction. -/
def Obligations.LdaStepsFromRawBytes : Prop :=
  ∀ s : State, s.halted = false →
    let op := (s.readByte s.pc).toNat
    let b := (s.readByte (s.pc + 1)).toNat
    let w := b + 256 * (s.readByte (s.pc + 2)).toNat
    let loads (m : Byte) (len : Word) : Prop :=
      step s = .next { s with a := m, p := withZN s.p m, pc := s.pc + len }
    (op = 0xA9 → loads (s.readByte (s.pc + 1)) 2) ∧
    (op = 0xA5 → loads (s.readByte (addr b)) 2) ∧
    (op = 0xB5 → loads (s.readByte (addr ((b + s.x.toNat) % 256))) 2) ∧
    (op = 0xAD → loads (s.readByte (addr w)) 3) ∧
    (op = 0xBD → loads (s.readByte (addr ((w + s.x.toNat) % 65536))) 3) ∧
    (op = 0xB9 → loads (s.readByte (addr ((w + s.y.toNat) % 65536))) 3) ∧
    (op = 0xA1 → loads (s.readByte (addr (pointerAt s ((b + s.x.toNat) % 256)))) 2) ∧
    (op = 0xB1 → loads (s.readByte (addr ((pointerAt s b + s.y.toNat) % 65536))) 2)

/-! ## Loads, stores, transfers -/

/-- R130, R131 and R132 (D10): a load completes in every form, puts M in its register, sets Z and N from M, and changes nothing
else. -/
def Obligations.LoadsPutTheOperandInTheRegister : Prop :=
  ∀ (i : Instr) (s : State),
    (i.mnemonic = .LDA → ∃ m, m? i s = some m ∧ exec i s = .next { s with a := m, p := withZN s.p m }) ∧
    (i.mnemonic = .LDX → ∃ m, m? i s = some m ∧ exec i s = .next { s with x := m, p := withZN s.p m }) ∧
    (i.mnemonic = .LDY → ∃ m, m? i s = some m ∧ exec i s = .next { s with y := m, p := withZN s.p m })

/-- R133, R134 and R135 (D10): a store completes in every form, stores its register at the effective address, and changes nothing
else: no flag, no register, no other byte. -/
def Obligations.StoresWriteOneByte : Prop :=
  ∀ (i : Instr) (s : State) (v : Byte),
    (i.mnemonic = .STA ∧ v = s.a ∨ i.mnemonic = .STX ∧ v = s.x ∨ i.mnemonic = .STY ∧ v = s.y) →
    ∃ ea t, ea? i s = some ea ∧ exec i s = .next t ∧ OnlyByteAt s t ea v ∧ SameButMemory s t

/-- R136 to R141 (D10): the transfers copy, set Z and N from the value copied, and change nothing else; TXS writes no flag. -/
def Obligations.TransfersCopyARegister : Prop :=
  ∀ s : State,
    exec .tax s = .next { s with x := s.a, p := withZN s.p s.a } ∧
    exec .tay s = .next { s with y := s.a, p := withZN s.p s.a } ∧
    exec .txa s = .next { s with a := s.x, p := withZN s.p s.x } ∧
    exec .tya s = .next { s with a := s.y, p := withZN s.p s.y } ∧
    exec .tsx s = .next { s with x := s.sp, p := withZN s.p s.sp } ∧
    exec .txs s = .next { s with sp := s.x }

/-! ## Arithmetic and logic -/

/-- R150 and R151: ADC in every form, the D flag not consulted. V is the formula of the rule, and it is 1 exactly when the
signed sum lies outside -128..127. -/
def Obligations.AdcAddsWithCarry : Prop :=
  ∀ (i : Instr) (s : State), i.mnemonic = .ADC → ∃ m, m? i s = some m ∧
    let sum := s.a.toNat + m.toNat + s.p.c.toNat
    let r := BitVec.ofNat 8 (sum % 256)
    let v := decide (((s.a ^^^ r) &&& (m ^^^ r) &&& 0x80#8).toNat ≠ 0)
    let signed := s.a.toInt + m.toInt + (s.p.c.toNat : Int)
    exec i s = .next { s with a := r, p := withZN { s.p with c := decide (255 < sum), v := v } r } ∧
    (v = true ↔ signed < -128 ∨ 127 < signed)

/-- R152 (D8): SBC in every form subtracts M and the borrow, leaves no borrow in C, and V says whether the signed difference lies
outside -128..127. -/
def Obligations.SbcSubtractsWithBorrow : Prop :=
  ∀ (i : Instr) (s : State), i.mnemonic = .SBC → ∃ m, m? i s = some m ∧
    let borrow := 1 - s.p.c.toNat
    let r := BitVec.ofNat 8 ((s.a.toNat + 256 - m.toNat - borrow) % 256)
    let signed := s.a.toInt - m.toInt - (borrow : Int)
    exec i s = .next { s with
      a := r
      p := withZN { s.p with
        c := decide (m.toNat + borrow ≤ s.a.toNat)
        v := decide (signed < -128 ∨ 127 < signed) } r }

/-- R153, R154 and R155 (D10): the logic instructions in every form; bit k of the new A is the and, or, exclusive or of bit k of A
and M, and C and V are not written. -/
def Obligations.LogicCombinesBits : Prop :=
  ∀ (i : Instr) (s : State) (f : Bool → Bool → Bool),
    (i.mnemonic = .AND ∧ f = Bool.and ∨ i.mnemonic = .ORA ∧ f = Bool.or ∨ i.mnemonic = .EOR ∧ f = Bool.xor) →
    ∃ m r, m? i s = some m ∧ exec i s = .next { s with a := r, p := withZN s.p r } ∧
      ∀ k, k < 8 → r.getLsbD k = f (s.a.getLsbD k) (m.getLsbD k)

/-- R156 (D11): BIT in both forms writes Z from A AND M, N and V from bits 7 and 6 of M, and nothing else. -/
def Obligations.BitTestsTheOperand : Prop :=
  ∀ (i : Instr) (s : State), i.mnemonic = .BIT → ∃ m, m? i s = some m ∧
    exec i s = .next { s with
      p := { s.p with
        z := decide ((s.a &&& m).toNat = 0)
        n := decide (128 ≤ m.toNat)
        v := decide (64 ≤ m.toNat % 128) } }

/-- R157 to R160 (D10): the compares in every form write C from the unsigned comparison and Z and N from the 8-bit difference, so Z
is 1 exactly when the two are equal; no register and no byte is written. -/
def Obligations.ComparesWriteOnlyFlags : Prop :=
  ∀ (i : Instr) (s : State) (reg : Byte),
    (i.mnemonic = .CMP ∧ reg = s.a ∨ i.mnemonic = .CPX ∧ reg = s.x ∨ i.mnemonic = .CPY ∧ reg = s.y) →
    ∃ m, m? i s = some m ∧ exec i s = .next { s with
      p := { s.p with
        c := decide (m.toNat ≤ reg.toNat)
        z := decide (reg = m)
        n := decide (128 ≤ (reg.toNat + 256 - m.toNat) % 256) } }

/-- R161 and R162 (D10): INC and DEC in every form write the byte plus or minus 1 modulo 256 at the effective address, Z and N from
it, and nothing else. -/
def Obligations.IncDecMemoryWraps : Prop :=
  ∀ (i : Instr) (s : State), i.mnemonic = .INC ∨ i.mnemonic = .DEC →
    ∃ ea t, ea? i s = some ea ∧
      let v := if i.mnemonic = .INC then BitVec.ofNat 8 (((s.readByte ea).toNat + 1) % 256)
        else BitVec.ofNat 8 (((s.readByte ea).toNat + 255) % 256)
      exec i s = .next t ∧ OnlyByteAt s t ea v ∧ SameButMemory { s with p := withZN s.p v } t

/-- R163 to R166 (D10): INX, INY, DEX and DEY wrap modulo 256, write Z and N, and touch neither C nor V nor anything else. -/
def Obligations.IncDecRegisterWraps : Prop :=
  ∀ s : State,
    (let v := BitVec.ofNat 8 ((s.x.toNat + 1) % 256); exec .inx s = .next { s with x := v, p := withZN s.p v }) ∧
    (let v := BitVec.ofNat 8 ((s.y.toNat + 1) % 256); exec .iny s = .next { s with y := v, p := withZN s.p v }) ∧
    (let v := BitVec.ofNat 8 ((s.x.toNat + 255) % 256); exec .dex s = .next { s with x := v, p := withZN s.p v }) ∧
    (let v := BitVec.ofNat 8 ((s.y.toNat + 255) % 256); exec .dey s = .next { s with y := v, p := withZN s.p v })

/-- R167, "multi-byte arithmetic is done by software through the carry": CLC, ADC of the low bytes and ADC of the high bytes
add two 16-bit numbers; C is the carry out of bit 15. -/
def Obligations.AdcChainAddsWords : Prop :=
  ∀ (s : State) (aLo aHi mLo mHi : Byte), s.a = aLo →
    let sum := aLo.toNat + 256 * aHi.toNat + mLo.toNat + 256 * mHi.toNat
    ∃ t u, thenRun (exec .clc s) (exec (.adcImm mLo)) = .next t ∧
      thenRun (exec (.ldaImm aHi) t) (exec (.adcImm mHi)) = .next u ∧
      t.a.toNat + 256 * u.a.toNat = sum % 65536 ∧ u.p.c = decide (65535 < sum)

/-- R167: SEC, SBC of the low bytes and SBC of the high bytes subtract two 16-bit numbers; C is 1 exactly when there is no
borrow. -/
def Obligations.SbcChainSubtractsWords : Prop :=
  ∀ (s : State) (aLo aHi mLo mHi : Byte), s.a = aLo →
    let a := aLo.toNat + 256 * aHi.toNat
    let m := mLo.toNat + 256 * mHi.toNat
    ∃ t u, thenRun (exec .sec s) (exec (.sbcImm mLo)) = .next t ∧
      thenRun (exec (.ldaImm aHi) t) (exec (.sbcImm mHi)) = .next u ∧
      t.a.toNat + 256 * u.a.toNat = (a + 65536 - m) % 65536 ∧ u.p.c = decide (m ≤ a)

/-! ## Shifts -/

/-- R180 to R184 (D10): in the ACC form the result goes to A; in every memory form it is written at the effective address and A is
neither read nor written. In both the bit shifted out goes to C, Z and N come from the result, and nothing else changes. -/
def Obligations.ShiftsAndRotatesByOne : Prop :=
  ∀ (i : Instr) (s : State), i.mnemonic ∈ [Mnemonic.ASL, .LSR, .ROL, .ROR] →
    (i.form = .ACC → ∃ r c, shiftOf i.mnemonic s.a.toNat s.p.c.toNat = some (r, c) ∧
      exec i s = .next { s with
        a := BitVec.ofNat 8 r
        p := withZN { s.p with c := decide (c = 1) } (BitVec.ofNat 8 r) }) ∧
    (i.form ≠ .ACC → ∃ ea r c t, ea? i s = some ea ∧
      shiftOf i.mnemonic (s.readByte ea).toNat s.p.c.toNat = some (r, c) ∧
      exec i s = .next t ∧ OnlyByteAt s t ea (BitVec.ofNat 8 r) ∧
      SameButMemory { s with p := withZN { s.p with c := decide (c = 1) } (BitVec.ofNat 8 r) } t)

/-- R185: ASL of the low byte and then ROL of the high byte shift a 16-bit little-endian word left by one, and LSR of the
high byte and then ROR of the low byte shift it right; the bit shifted out of the word is left in C. And of R183, "nine
ROLs in a row restore v and C". -/
def Obligations.RotatesChainThroughTheCarry : Prop :=
  ∀ (s : State) (w : Word),
    (∃ t, thenRun (exec (.aslAbs w) s) (exec (.rolAbs (w + 1))) = .next t ∧
      word16At t w = word16At s w * 2 % 65536 ∧ t.p.c = decide (32768 ≤ word16At s w)) ∧
    (∃ t, thenRun (exec (.lsrAbs (w + 1)) s) (exec (.rorAbs w)) = .next t ∧
      word16At t w = word16At s w / 2 ∧ t.p.c = decide (word16At s w % 2 = 1)) ∧
    (∃ t, (List.range 9).foldl (fun r _ => thenRun r (exec .rolAcc)) (.next s) = .next t ∧
      t.a = s.a ∧ t.p.c = s.p.c)

/-! ## Control transfer -/

/-- R190 to R198: a branch completes in either case; taken, PC is the PC after the offset byte plus the signed offset modulo
65536; not taken, nothing; no flag, register or byte is written. Which flag each branch tests is D10. -/
def Obligations.BranchesTestTheirFlag : Prop :=
  ∀ (i : Instr) (s : State) (cond : Bool), branchCondition s.p i.mnemonic = some cond →
    ∃ b target, i.operand = .rel b ∧
      ((target : Word).toNat : Int) = ((s.pc.toNat : Int) + b.toInt) % 65536 ∧
      exec i s = .next (if cond then { s with pc := target } else s)

/-- R199: JMP in both forms sets PC to the effective address and changes nothing else. How the IND form finds its word (R113)
is D5, and its wrap at 0xFFFF is D6. -/
def Obligations.JumpSetsPc : Prop :=
  ∀ (s : State) (w : Word),
    exec (.jmpAbs w) s = .next { s with pc := w } ∧
    exec (.jmpInd w) s = .next { s with
      pc := addr ((s.readByte w).toNat + 256 * (s.readByte (addr ((w.toNat + 1) % 65536))).toNat) }

/-- R201: JSR jumps under both values of LINKAGE; under halting it pushes nothing (D14); under hardware it pushes PC - 1, high
byte first, SP ends 2 lower modulo 256, and no other byte changes. -/
def Obligations.JsrJumpsAndLinks : Prop :=
  ∀ (s : State) (w : Word),
    (s.cfg.linkage = .halting → exec (.jsrAbs w) s = .next { s with pc := w }) ∧
    (s.cfg.linkage = .hardware → ∃ t, exec (.jsrAbs w) s = .next t ∧
      let ret := (s.pc.toNat + 65535) % 65536
      let hiAt := addr (256 + s.sp.toNat)
      let loAt := addr (256 + (s.sp.toNat + 255) % 256)
      (t.readByte hiAt).toNat = ret / 256 ∧ (t.readByte loAt).toNat = ret % 256 ∧
      (∀ a : Word, a ≠ hiAt → a ≠ loAt → t.readByte a = s.readByte a) ∧
      SameButMemory { s with pc := w, sp := BitVec.ofNat 8 ((s.sp.toNat + 254) % 256) } t)

/-- R203 (D13): RTS under halting halts and changes nothing else; under hardware it pulls the low and then the high byte, sets PC
one past the pulled word, and SP ends 2 higher modulo 256. -/
def Obligations.RtsHaltsOrReturns : Prop :=
  ∀ s : State,
    (s.cfg.linkage = .halting → exec .rts s = .next { s with halted := true }) ∧
    (s.cfg.linkage = .hardware →
      let lo := (s.readByte (addr (256 + (s.sp.toNat + 1) % 256))).toNat
      let hi := (s.readByte (addr (256 + (s.sp.toNat + 2) % 256))).toNat
      exec .rts s = .next { s with
        pc := addr ((256 * hi + lo + 1) % 65536)
        sp := BitVec.ofNat 8 ((s.sp.toNat + 2) % 256) })

/-- R201 with R203 under LINKAGE = hardware (D13): a call and then an immediate return come back to the instruction after the call
with SP restored, from any SP, also where the stack wraps. -/
def Obligations.CallThenReturnComesBack : Prop :=
  ∀ (s : State) (w : Word), s.cfg.linkage = .hardware →
    ∃ t, thenRun (exec (.jsrAbs w) s) (exec .rts) = .next t ∧ SameButMemory s t

/-! ## Stack, flags, system -/

/-- R210 and R211 on the push of R120: PHA pushes A, PHP pushes the status byte with bits 4 and 5 set; SP ends 1 lower modulo
256; no flag, no other register and no other byte changes. -/
def Obligations.PushesStoreAndDecrement : Prop :=
  ∀ s : State,
    let at_ := addr (256 + s.sp.toNat)
    let below := BitVec.ofNat 8 ((s.sp.toNat + 255) % 256)
    let status := BitVec.ofNat 8 (128 * s.p.n.toNat + 64 * s.p.v.toNat + 48 + 8 * s.p.d.toNat + 4 * s.p.i.toNat +
      2 * s.p.z.toNat + s.p.c.toNat)
    (∃ t, exec .pha s = .next t ∧ OnlyByteAt s t at_ s.a ∧ SameButMemory { s with sp := below } t) ∧
    (∃ t, exec .php s = .next t ∧ OnlyByteAt s t at_ status ∧ SameButMemory { s with sp := below } t)

/-- R212 and R213 on the pull of R121: SP ends 1 higher modulo 256; PLA loads A and sets Z and N; PLP loads N V D I Z C from
bits 7, 6, 3, 2, 1, 0 and clears B; memory and every other register are unchanged. -/
def Obligations.PullsIncrementAndLoad : Prop :=
  ∀ s : State,
    let above := BitVec.ofNat 8 ((s.sp.toNat + 1) % 256)
    let v := s.readByte (addr (256 + (s.sp.toNat + 1) % 256))
    exec .pla s = .next { s with sp := above, a := v, p := withZN s.p v } ∧
    exec .plp s = .next { s with
      sp := above
      p := { n := v.getLsbD 7, v := v.getLsbD 6, b := false, d := v.getLsbD 3, i := v.getLsbD 2, z := v.getLsbD 1,
             c := v.getLsbD 0 } }

/-- The push-then-pull round trip of R212 and the status round trip of R213: PHA, any change of A, PLA restores A and SP; PHP,
any change of the flags, PLP restores every flag but B, which becomes 0, and SP. -/
def Obligations.PushThenPullRestores : Prop :=
  ∀ (s : State) (a : Byte) (p : Flags),
    (∃ t u, exec .pha s = .next t ∧ exec .pla { t with a := a } = .next u ∧
      u.a = s.a ∧ u.sp = s.sp ∧ u.p = withZN s.p s.a) ∧
    (∃ t u, exec .php s = .next t ∧ exec .plp { t with p := p } = .next u ∧
      u.p = { s.p with b := false } ∧ u.sp = s.sp ∧ u.p.toByte.getLsbD 5 = true)

/-- R214 to R220 (D10): each of the seven writes one flag to a constant and nothing else. -/
def Obligations.FlagInstructionsWriteOneFlag : Prop :=
  ∀ s : State,
    exec .clc s = .next { s with p := { s.p with c := false } } ∧
    exec .sec s = .next { s with p := { s.p with c := true } } ∧
    exec .cld s = .next { s with p := { s.p with d := false } } ∧
    exec .sed s = .next { s with p := { s.p with d := true } } ∧
    exec .cli s = .next { s with p := { s.p with i := false } } ∧
    exec .sei s = .next { s with p := { s.p with i := true } } ∧
    exec .clv s = .next { s with p := { s.p with v := false } }

/-- R221 (D10) and R223: NOP changes nothing; BRK sets B and halts. That BRK changes nothing else is D12. -/
def Obligations.NopAndBrk : Prop :=
  ∀ s : State,
    exec .nop s = .next s ∧ exec .brk s = .next { s with p := { s.p with b := true }, halted := true }

/-- R224 (D15): RTI pulls the status as PLP does, then PC low, then PC high, with no +1; SP ends 3 higher modulo 256; it depends on
no parameter. -/
def Obligations.RtiRestoresStatusAndPc : Prop :=
  ∀ s : State,
    let v := s.readByte (addr (256 + (s.sp.toNat + 1) % 256))
    let lo := (s.readByte (addr (256 + (s.sp.toNat + 2) % 256))).toNat
    let hi := (s.readByte (addr (256 + (s.sp.toNat + 3) % 256))).toNat
    exec .rti s = .next { s with
      sp := BitVec.ofNat 8 ((s.sp.toNat + 3) % 256)
      pc := addr (256 * hi + lo)
      p := { n := v.getLsbD 7, v := v.getLsbD 6, b := false, d := v.getLsbD 3, i := v.getLsbD 2, z := v.getLsbD 1,
             c := v.getLsbD 0 } }
end

