-- ==== Sys2Proof/Laws/Bytes.lean ====
section
/-! SUPPORT. The laws of byte order and extension (R9, R54). -/
namespace Sys2Proof.Machine

theorem toNat_mkWord (hi lo : Byte) : (mkWord hi lo).toNat = 256 * hi.toNat + lo.toNat := by
  have := hi.isLt
  have := lo.isLt
  simp only [mkWord, BitVec.toNat_ofNat]
  omega

theorem toNat_loByte (w : Word) : (loByte w).toNat = w.toNat % 256 := by
  simp [loByte]

theorem toNat_hiByte (w : Word) : (hiByte w).toNat = w.toNat / 256 := by
  have := w.isLt
  simp [hiByte, Nat.shiftRight_eq_div_pow]
  omega

@[simp] theorem loByte_mkWord (hi lo : Byte) : loByte (mkWord hi lo) = lo := by
  apply BitVec.eq_of_toNat_eq
  rw [toNat_loByte, toNat_mkWord]
  omega

@[simp] theorem hiByte_mkWord (hi lo : Byte) : hiByte (mkWord hi lo) = hi := by
  apply BitVec.eq_of_toNat_eq
  rw [toNat_hiByte, toNat_mkWord]
  omega

@[simp] theorem mkWord_hiByte_loByte (w : Word) : mkWord (hiByte w) (loByte w) = w := by
  apply BitVec.eq_of_toNat_eq
  rw [toNat_mkWord, toNat_hiByte, toNat_loByte]
  omega

@[simp] theorem toNat_zext16 (v : Byte) : (zext16 v).toNat = v.toNat := by
  simp [zext16]
  omega

theorem zext16_injective {v w : Byte} (h : zext16 v = zext16 w) : v = w := by
  apply BitVec.eq_of_toNat_eq
  rw [← toNat_zext16 v, ← toNat_zext16 w, h]

/-- `sext_16` as R9 gives it: the byte itself if bit 7 is 0, `0xFF00 + v` if it is 1. -/
theorem toNat_sext16 (v : Byte) :
    (sext16 v).toNat = if v.toNat < 128 then v.toNat else 0xFF00 + v.toNat := by
  revert v
  decide

end Sys2Proof.Machine
end

