-- ==== Sys2Proof/Laws/PerInstr.lean ====
section
/-! SUPPORT. Statements about every instruction as syntax, one lemma per constructor (LAWS.json, "per_instruction"). -/
namespace Sys2Proof.Laws.OpcodeRow

/-- The decoder's table row of an instruction's opcode byte: it carries the instruction's mnemonic and form, the length of
its encoding, and it is a well-formed descriptor (R80, R81, R84, R86). -/
def Statement (i : Instr) : Prop :=
  ∃ r, lookup i.opcode = some r ∧ r.descriptor.mnemonic = i.mnemonic ∧ r.descriptor.form = i.form ∧
    r.descriptor.length = (encode i).length ∧ r.assembly.length = (encode i).length ∧ r.descriptor.wf = true

theorem adcImm (b : Byte) : Statement (.adcImm b) := ⟨_, (rfl : lookup 0x69#8 = _), rfl, rfl, rfl, rfl, rfl⟩
theorem adcZp (b : Byte) : Statement (.adcZp b) := ⟨_, (rfl : lookup 0x65#8 = _), rfl, rfl, rfl, rfl, rfl⟩
theorem adcZpx (b : Byte) : Statement (.adcZpx b) := ⟨_, (rfl : lookup 0x75#8 = _), rfl, rfl, rfl, rfl, rfl⟩
theorem adcAbs (w : Word) : Statement (.adcAbs w) := ⟨_, (rfl : lookup 0x6D#8 = _), rfl, rfl, rfl, rfl, rfl⟩
theorem adcAbx (w : Word) : Statement (.adcAbx w) := ⟨_, (rfl : lookup 0x7D#8 = _), rfl, rfl, rfl, rfl, rfl⟩
theorem adcAby (w : Word) : Statement (.adcAby w) := ⟨_, (rfl : lookup 0x79#8 = _), rfl, rfl, rfl, rfl, rfl⟩
theorem adcIzx (b : Byte) : Statement (.adcIzx b) := ⟨_, (rfl : lookup 0x61#8 = _), rfl, rfl, rfl, rfl, rfl⟩
theorem adcIzy (b : Byte) : Statement (.adcIzy b) := ⟨_, (rfl : lookup 0x71#8 = _), rfl, rfl, rfl, rfl, rfl⟩
theorem andImm (b : Byte) : Statement (.andImm b) := ⟨_, (rfl : lookup 0x29#8 = _), rfl, rfl, rfl, rfl, rfl⟩
theorem andZp (b : Byte) : Statement (.andZp b) := ⟨_, (rfl : lookup 0x25#8 = _), rfl, rfl, rfl, rfl, rfl⟩
theorem andZpx (b : Byte) : Statement (.andZpx b) := ⟨_, (rfl : lookup 0x35#8 = _), rfl, rfl, rfl, rfl, rfl⟩
theorem andAbs (w : Word) : Statement (.andAbs w) := ⟨_, (rfl : lookup 0x2D#8 = _), rfl, rfl, rfl, rfl, rfl⟩
theorem andAbx (w : Word) : Statement (.andAbx w) := ⟨_, (rfl : lookup 0x3D#8 = _), rfl, rfl, rfl, rfl, rfl⟩
theorem andAby (w : Word) : Statement (.andAby w) := ⟨_, (rfl : lookup 0x39#8 = _), rfl, rfl, rfl, rfl, rfl⟩
theorem andIzx (b : Byte) : Statement (.andIzx b) := ⟨_, (rfl : lookup 0x21#8 = _), rfl, rfl, rfl, rfl, rfl⟩
theorem andIzy (b : Byte) : Statement (.andIzy b) := ⟨_, (rfl : lookup 0x31#8 = _), rfl, rfl, rfl, rfl, rfl⟩
theorem aslAcc : Statement (.aslAcc) := ⟨_, (rfl : lookup 0x0A#8 = _), rfl, rfl, rfl, rfl, rfl⟩
theorem aslZp (b : Byte) : Statement (.aslZp b) := ⟨_, (rfl : lookup 0x06#8 = _), rfl, rfl, rfl, rfl, rfl⟩
theorem aslZpx (b : Byte) : Statement (.aslZpx b) := ⟨_, (rfl : lookup 0x16#8 = _), rfl, rfl, rfl, rfl, rfl⟩
theorem aslAbs (w : Word) : Statement (.aslAbs w) := ⟨_, (rfl : lookup 0x0E#8 = _), rfl, rfl, rfl, rfl, rfl⟩
theorem aslAbx (w : Word) : Statement (.aslAbx w) := ⟨_, (rfl : lookup 0x1E#8 = _), rfl, rfl, rfl, rfl, rfl⟩
theorem bccRel (b : Byte) : Statement (.bccRel b) := ⟨_, (rfl : lookup 0x90#8 = _), rfl, rfl, rfl, rfl, rfl⟩
theorem bcsRel (b : Byte) : Statement (.bcsRel b) := ⟨_, (rfl : lookup 0xB0#8 = _), rfl, rfl, rfl, rfl, rfl⟩
theorem beqRel (b : Byte) : Statement (.beqRel b) := ⟨_, (rfl : lookup 0xF0#8 = _), rfl, rfl, rfl, rfl, rfl⟩
theorem bitZp (b : Byte) : Statement (.bitZp b) := ⟨_, (rfl : lookup 0x24#8 = _), rfl, rfl, rfl, rfl, rfl⟩
theorem bitAbs (w : Word) : Statement (.bitAbs w) := ⟨_, (rfl : lookup 0x2C#8 = _), rfl, rfl, rfl, rfl, rfl⟩
theorem bmiRel (b : Byte) : Statement (.bmiRel b) := ⟨_, (rfl : lookup 0x30#8 = _), rfl, rfl, rfl, rfl, rfl⟩
theorem bneRel (b : Byte) : Statement (.bneRel b) := ⟨_, (rfl : lookup 0xD0#8 = _), rfl, rfl, rfl, rfl, rfl⟩
theorem bplRel (b : Byte) : Statement (.bplRel b) := ⟨_, (rfl : lookup 0x10#8 = _), rfl, rfl, rfl, rfl, rfl⟩
theorem brk : Statement (.brk) := ⟨_, (rfl : lookup 0x00#8 = _), rfl, rfl, rfl, rfl, rfl⟩
theorem bvcRel (b : Byte) : Statement (.bvcRel b) := ⟨_, (rfl : lookup 0x50#8 = _), rfl, rfl, rfl, rfl, rfl⟩
theorem bvsRel (b : Byte) : Statement (.bvsRel b) := ⟨_, (rfl : lookup 0x70#8 = _), rfl, rfl, rfl, rfl, rfl⟩
theorem clc : Statement (.clc) := ⟨_, (rfl : lookup 0x18#8 = _), rfl, rfl, rfl, rfl, rfl⟩
theorem cld : Statement (.cld) := ⟨_, (rfl : lookup 0xD8#8 = _), rfl, rfl, rfl, rfl, rfl⟩
theorem cli : Statement (.cli) := ⟨_, (rfl : lookup 0x58#8 = _), rfl, rfl, rfl, rfl, rfl⟩
theorem clv : Statement (.clv) := ⟨_, (rfl : lookup 0xB8#8 = _), rfl, rfl, rfl, rfl, rfl⟩
theorem cmpImm (b : Byte) : Statement (.cmpImm b) := ⟨_, (rfl : lookup 0xC9#8 = _), rfl, rfl, rfl, rfl, rfl⟩
theorem cmpZp (b : Byte) : Statement (.cmpZp b) := ⟨_, (rfl : lookup 0xC5#8 = _), rfl, rfl, rfl, rfl, rfl⟩
theorem cmpZpx (b : Byte) : Statement (.cmpZpx b) := ⟨_, (rfl : lookup 0xD5#8 = _), rfl, rfl, rfl, rfl, rfl⟩
theorem cmpAbs (w : Word) : Statement (.cmpAbs w) := ⟨_, (rfl : lookup 0xCD#8 = _), rfl, rfl, rfl, rfl, rfl⟩
theorem cmpAbx (w : Word) : Statement (.cmpAbx w) := ⟨_, (rfl : lookup 0xDD#8 = _), rfl, rfl, rfl, rfl, rfl⟩
theorem cmpAby (w : Word) : Statement (.cmpAby w) := ⟨_, (rfl : lookup 0xD9#8 = _), rfl, rfl, rfl, rfl, rfl⟩
theorem cmpIzx (b : Byte) : Statement (.cmpIzx b) := ⟨_, (rfl : lookup 0xC1#8 = _), rfl, rfl, rfl, rfl, rfl⟩
theorem cmpIzy (b : Byte) : Statement (.cmpIzy b) := ⟨_, (rfl : lookup 0xD1#8 = _), rfl, rfl, rfl, rfl, rfl⟩
theorem cpxImm (b : Byte) : Statement (.cpxImm b) := ⟨_, (rfl : lookup 0xE0#8 = _), rfl, rfl, rfl, rfl, rfl⟩
theorem cpxZp (b : Byte) : Statement (.cpxZp b) := ⟨_, (rfl : lookup 0xE4#8 = _), rfl, rfl, rfl, rfl, rfl⟩
theorem cpxAbs (w : Word) : Statement (.cpxAbs w) := ⟨_, (rfl : lookup 0xEC#8 = _), rfl, rfl, rfl, rfl, rfl⟩
theorem cpyImm (b : Byte) : Statement (.cpyImm b) := ⟨_, (rfl : lookup 0xC0#8 = _), rfl, rfl, rfl, rfl, rfl⟩
theorem cpyZp (b : Byte) : Statement (.cpyZp b) := ⟨_, (rfl : lookup 0xC4#8 = _), rfl, rfl, rfl, rfl, rfl⟩
theorem cpyAbs (w : Word) : Statement (.cpyAbs w) := ⟨_, (rfl : lookup 0xCC#8 = _), rfl, rfl, rfl, rfl, rfl⟩
theorem decZp (b : Byte) : Statement (.decZp b) := ⟨_, (rfl : lookup 0xC6#8 = _), rfl, rfl, rfl, rfl, rfl⟩
theorem decZpx (b : Byte) : Statement (.decZpx b) := ⟨_, (rfl : lookup 0xD6#8 = _), rfl, rfl, rfl, rfl, rfl⟩
theorem decAbs (w : Word) : Statement (.decAbs w) := ⟨_, (rfl : lookup 0xCE#8 = _), rfl, rfl, rfl, rfl, rfl⟩
theorem decAbx (w : Word) : Statement (.decAbx w) := ⟨_, (rfl : lookup 0xDE#8 = _), rfl, rfl, rfl, rfl, rfl⟩
theorem dex : Statement (.dex) := ⟨_, (rfl : lookup 0xCA#8 = _), rfl, rfl, rfl, rfl, rfl⟩
theorem dey : Statement (.dey) := ⟨_, (rfl : lookup 0x88#8 = _), rfl, rfl, rfl, rfl, rfl⟩
theorem eorImm (b : Byte) : Statement (.eorImm b) := ⟨_, (rfl : lookup 0x49#8 = _), rfl, rfl, rfl, rfl, rfl⟩
theorem eorZp (b : Byte) : Statement (.eorZp b) := ⟨_, (rfl : lookup 0x45#8 = _), rfl, rfl, rfl, rfl, rfl⟩
theorem eorZpx (b : Byte) : Statement (.eorZpx b) := ⟨_, (rfl : lookup 0x55#8 = _), rfl, rfl, rfl, rfl, rfl⟩
theorem eorAbs (w : Word) : Statement (.eorAbs w) := ⟨_, (rfl : lookup 0x4D#8 = _), rfl, rfl, rfl, rfl, rfl⟩
theorem eorAbx (w : Word) : Statement (.eorAbx w) := ⟨_, (rfl : lookup 0x5D#8 = _), rfl, rfl, rfl, rfl, rfl⟩
theorem eorAby (w : Word) : Statement (.eorAby w) := ⟨_, (rfl : lookup 0x59#8 = _), rfl, rfl, rfl, rfl, rfl⟩
theorem eorIzx (b : Byte) : Statement (.eorIzx b) := ⟨_, (rfl : lookup 0x41#8 = _), rfl, rfl, rfl, rfl, rfl⟩
theorem eorIzy (b : Byte) : Statement (.eorIzy b) := ⟨_, (rfl : lookup 0x51#8 = _), rfl, rfl, rfl, rfl, rfl⟩
theorem incZp (b : Byte) : Statement (.incZp b) := ⟨_, (rfl : lookup 0xE6#8 = _), rfl, rfl, rfl, rfl, rfl⟩
theorem incZpx (b : Byte) : Statement (.incZpx b) := ⟨_, (rfl : lookup 0xF6#8 = _), rfl, rfl, rfl, rfl, rfl⟩
theorem incAbs (w : Word) : Statement (.incAbs w) := ⟨_, (rfl : lookup 0xEE#8 = _), rfl, rfl, rfl, rfl, rfl⟩
theorem incAbx (w : Word) : Statement (.incAbx w) := ⟨_, (rfl : lookup 0xFE#8 = _), rfl, rfl, rfl, rfl, rfl⟩
theorem inx : Statement (.inx) := ⟨_, (rfl : lookup 0xE8#8 = _), rfl, rfl, rfl, rfl, rfl⟩
theorem iny : Statement (.iny) := ⟨_, (rfl : lookup 0xC8#8 = _), rfl, rfl, rfl, rfl, rfl⟩
theorem jmpAbs (w : Word) : Statement (.jmpAbs w) := ⟨_, (rfl : lookup 0x4C#8 = _), rfl, rfl, rfl, rfl, rfl⟩
theorem jmpInd (w : Word) : Statement (.jmpInd w) := ⟨_, (rfl : lookup 0x6C#8 = _), rfl, rfl, rfl, rfl, rfl⟩
theorem jsrAbs (w : Word) : Statement (.jsrAbs w) := ⟨_, (rfl : lookup 0x20#8 = _), rfl, rfl, rfl, rfl, rfl⟩
theorem ldaImm (b : Byte) : Statement (.ldaImm b) := ⟨_, (rfl : lookup 0xA9#8 = _), rfl, rfl, rfl, rfl, rfl⟩
theorem ldaZp (b : Byte) : Statement (.ldaZp b) := ⟨_, (rfl : lookup 0xA5#8 = _), rfl, rfl, rfl, rfl, rfl⟩
theorem ldaZpx (b : Byte) : Statement (.ldaZpx b) := ⟨_, (rfl : lookup 0xB5#8 = _), rfl, rfl, rfl, rfl, rfl⟩
theorem ldaAbs (w : Word) : Statement (.ldaAbs w) := ⟨_, (rfl : lookup 0xAD#8 = _), rfl, rfl, rfl, rfl, rfl⟩
theorem ldaAbx (w : Word) : Statement (.ldaAbx w) := ⟨_, (rfl : lookup 0xBD#8 = _), rfl, rfl, rfl, rfl, rfl⟩
theorem ldaAby (w : Word) : Statement (.ldaAby w) := ⟨_, (rfl : lookup 0xB9#8 = _), rfl, rfl, rfl, rfl, rfl⟩
theorem ldaIzx (b : Byte) : Statement (.ldaIzx b) := ⟨_, (rfl : lookup 0xA1#8 = _), rfl, rfl, rfl, rfl, rfl⟩
theorem ldaIzy (b : Byte) : Statement (.ldaIzy b) := ⟨_, (rfl : lookup 0xB1#8 = _), rfl, rfl, rfl, rfl, rfl⟩
theorem ldxImm (b : Byte) : Statement (.ldxImm b) := ⟨_, (rfl : lookup 0xA2#8 = _), rfl, rfl, rfl, rfl, rfl⟩
theorem ldxZp (b : Byte) : Statement (.ldxZp b) := ⟨_, (rfl : lookup 0xA6#8 = _), rfl, rfl, rfl, rfl, rfl⟩
theorem ldxZpy (b : Byte) : Statement (.ldxZpy b) := ⟨_, (rfl : lookup 0xB6#8 = _), rfl, rfl, rfl, rfl, rfl⟩
theorem ldxAbs (w : Word) : Statement (.ldxAbs w) := ⟨_, (rfl : lookup 0xAE#8 = _), rfl, rfl, rfl, rfl, rfl⟩
theorem ldxAby (w : Word) : Statement (.ldxAby w) := ⟨_, (rfl : lookup 0xBE#8 = _), rfl, rfl, rfl, rfl, rfl⟩
theorem ldyImm (b : Byte) : Statement (.ldyImm b) := ⟨_, (rfl : lookup 0xA0#8 = _), rfl, rfl, rfl, rfl, rfl⟩
theorem ldyZp (b : Byte) : Statement (.ldyZp b) := ⟨_, (rfl : lookup 0xA4#8 = _), rfl, rfl, rfl, rfl, rfl⟩
theorem ldyZpx (b : Byte) : Statement (.ldyZpx b) := ⟨_, (rfl : lookup 0xB4#8 = _), rfl, rfl, rfl, rfl, rfl⟩
theorem ldyAbs (w : Word) : Statement (.ldyAbs w) := ⟨_, (rfl : lookup 0xAC#8 = _), rfl, rfl, rfl, rfl, rfl⟩
theorem ldyAbx (w : Word) : Statement (.ldyAbx w) := ⟨_, (rfl : lookup 0xBC#8 = _), rfl, rfl, rfl, rfl, rfl⟩
theorem lsrAcc : Statement (.lsrAcc) := ⟨_, (rfl : lookup 0x4A#8 = _), rfl, rfl, rfl, rfl, rfl⟩
theorem lsrZp (b : Byte) : Statement (.lsrZp b) := ⟨_, (rfl : lookup 0x46#8 = _), rfl, rfl, rfl, rfl, rfl⟩
theorem lsrZpx (b : Byte) : Statement (.lsrZpx b) := ⟨_, (rfl : lookup 0x56#8 = _), rfl, rfl, rfl, rfl, rfl⟩
theorem lsrAbs (w : Word) : Statement (.lsrAbs w) := ⟨_, (rfl : lookup 0x4E#8 = _), rfl, rfl, rfl, rfl, rfl⟩
theorem lsrAbx (w : Word) : Statement (.lsrAbx w) := ⟨_, (rfl : lookup 0x5E#8 = _), rfl, rfl, rfl, rfl, rfl⟩
theorem nop : Statement (.nop) := ⟨_, (rfl : lookup 0xEA#8 = _), rfl, rfl, rfl, rfl, rfl⟩
theorem oraImm (b : Byte) : Statement (.oraImm b) := ⟨_, (rfl : lookup 0x09#8 = _), rfl, rfl, rfl, rfl, rfl⟩
theorem oraZp (b : Byte) : Statement (.oraZp b) := ⟨_, (rfl : lookup 0x05#8 = _), rfl, rfl, rfl, rfl, rfl⟩
theorem oraZpx (b : Byte) : Statement (.oraZpx b) := ⟨_, (rfl : lookup 0x15#8 = _), rfl, rfl, rfl, rfl, rfl⟩
theorem oraAbs (w : Word) : Statement (.oraAbs w) := ⟨_, (rfl : lookup 0x0D#8 = _), rfl, rfl, rfl, rfl, rfl⟩
theorem oraAbx (w : Word) : Statement (.oraAbx w) := ⟨_, (rfl : lookup 0x1D#8 = _), rfl, rfl, rfl, rfl, rfl⟩
theorem oraAby (w : Word) : Statement (.oraAby w) := ⟨_, (rfl : lookup 0x19#8 = _), rfl, rfl, rfl, rfl, rfl⟩
theorem oraIzx (b : Byte) : Statement (.oraIzx b) := ⟨_, (rfl : lookup 0x01#8 = _), rfl, rfl, rfl, rfl, rfl⟩
theorem oraIzy (b : Byte) : Statement (.oraIzy b) := ⟨_, (rfl : lookup 0x11#8 = _), rfl, rfl, rfl, rfl, rfl⟩
theorem pha : Statement (.pha) := ⟨_, (rfl : lookup 0x48#8 = _), rfl, rfl, rfl, rfl, rfl⟩
theorem php : Statement (.php) := ⟨_, (rfl : lookup 0x08#8 = _), rfl, rfl, rfl, rfl, rfl⟩
theorem pla : Statement (.pla) := ⟨_, (rfl : lookup 0x68#8 = _), rfl, rfl, rfl, rfl, rfl⟩
theorem plp : Statement (.plp) := ⟨_, (rfl : lookup 0x28#8 = _), rfl, rfl, rfl, rfl, rfl⟩
theorem rolAcc : Statement (.rolAcc) := ⟨_, (rfl : lookup 0x2A#8 = _), rfl, rfl, rfl, rfl, rfl⟩
theorem rolZp (b : Byte) : Statement (.rolZp b) := ⟨_, (rfl : lookup 0x26#8 = _), rfl, rfl, rfl, rfl, rfl⟩
theorem rolZpx (b : Byte) : Statement (.rolZpx b) := ⟨_, (rfl : lookup 0x36#8 = _), rfl, rfl, rfl, rfl, rfl⟩
theorem rolAbs (w : Word) : Statement (.rolAbs w) := ⟨_, (rfl : lookup 0x2E#8 = _), rfl, rfl, rfl, rfl, rfl⟩
theorem rolAbx (w : Word) : Statement (.rolAbx w) := ⟨_, (rfl : lookup 0x3E#8 = _), rfl, rfl, rfl, rfl, rfl⟩
theorem rorAcc : Statement (.rorAcc) := ⟨_, (rfl : lookup 0x6A#8 = _), rfl, rfl, rfl, rfl, rfl⟩
theorem rorZp (b : Byte) : Statement (.rorZp b) := ⟨_, (rfl : lookup 0x66#8 = _), rfl, rfl, rfl, rfl, rfl⟩
theorem rorZpx (b : Byte) : Statement (.rorZpx b) := ⟨_, (rfl : lookup 0x76#8 = _), rfl, rfl, rfl, rfl, rfl⟩
theorem rorAbs (w : Word) : Statement (.rorAbs w) := ⟨_, (rfl : lookup 0x6E#8 = _), rfl, rfl, rfl, rfl, rfl⟩
theorem rorAbx (w : Word) : Statement (.rorAbx w) := ⟨_, (rfl : lookup 0x7E#8 = _), rfl, rfl, rfl, rfl, rfl⟩
theorem rti : Statement (.rti) := ⟨_, (rfl : lookup 0x40#8 = _), rfl, rfl, rfl, rfl, rfl⟩
theorem rts : Statement (.rts) := ⟨_, (rfl : lookup 0x60#8 = _), rfl, rfl, rfl, rfl, rfl⟩
theorem sbcImm (b : Byte) : Statement (.sbcImm b) := ⟨_, (rfl : lookup 0xE9#8 = _), rfl, rfl, rfl, rfl, rfl⟩
theorem sbcZp (b : Byte) : Statement (.sbcZp b) := ⟨_, (rfl : lookup 0xE5#8 = _), rfl, rfl, rfl, rfl, rfl⟩
theorem sbcZpx (b : Byte) : Statement (.sbcZpx b) := ⟨_, (rfl : lookup 0xF5#8 = _), rfl, rfl, rfl, rfl, rfl⟩
theorem sbcAbs (w : Word) : Statement (.sbcAbs w) := ⟨_, (rfl : lookup 0xED#8 = _), rfl, rfl, rfl, rfl, rfl⟩
theorem sbcAbx (w : Word) : Statement (.sbcAbx w) := ⟨_, (rfl : lookup 0xFD#8 = _), rfl, rfl, rfl, rfl, rfl⟩
theorem sbcAby (w : Word) : Statement (.sbcAby w) := ⟨_, (rfl : lookup 0xF9#8 = _), rfl, rfl, rfl, rfl, rfl⟩
theorem sbcIzx (b : Byte) : Statement (.sbcIzx b) := ⟨_, (rfl : lookup 0xE1#8 = _), rfl, rfl, rfl, rfl, rfl⟩
theorem sbcIzy (b : Byte) : Statement (.sbcIzy b) := ⟨_, (rfl : lookup 0xF1#8 = _), rfl, rfl, rfl, rfl, rfl⟩
theorem sec : Statement (.sec) := ⟨_, (rfl : lookup 0x38#8 = _), rfl, rfl, rfl, rfl, rfl⟩
theorem sed : Statement (.sed) := ⟨_, (rfl : lookup 0xF8#8 = _), rfl, rfl, rfl, rfl, rfl⟩
theorem sei : Statement (.sei) := ⟨_, (rfl : lookup 0x78#8 = _), rfl, rfl, rfl, rfl, rfl⟩
theorem staZp (b : Byte) : Statement (.staZp b) := ⟨_, (rfl : lookup 0x85#8 = _), rfl, rfl, rfl, rfl, rfl⟩
theorem staZpx (b : Byte) : Statement (.staZpx b) := ⟨_, (rfl : lookup 0x95#8 = _), rfl, rfl, rfl, rfl, rfl⟩
theorem staAbs (w : Word) : Statement (.staAbs w) := ⟨_, (rfl : lookup 0x8D#8 = _), rfl, rfl, rfl, rfl, rfl⟩
theorem staAbx (w : Word) : Statement (.staAbx w) := ⟨_, (rfl : lookup 0x9D#8 = _), rfl, rfl, rfl, rfl, rfl⟩
theorem staAby (w : Word) : Statement (.staAby w) := ⟨_, (rfl : lookup 0x99#8 = _), rfl, rfl, rfl, rfl, rfl⟩
theorem staIzx (b : Byte) : Statement (.staIzx b) := ⟨_, (rfl : lookup 0x81#8 = _), rfl, rfl, rfl, rfl, rfl⟩
theorem staIzy (b : Byte) : Statement (.staIzy b) := ⟨_, (rfl : lookup 0x91#8 = _), rfl, rfl, rfl, rfl, rfl⟩
theorem stxZp (b : Byte) : Statement (.stxZp b) := ⟨_, (rfl : lookup 0x86#8 = _), rfl, rfl, rfl, rfl, rfl⟩
theorem stxZpy (b : Byte) : Statement (.stxZpy b) := ⟨_, (rfl : lookup 0x96#8 = _), rfl, rfl, rfl, rfl, rfl⟩
theorem stxAbs (w : Word) : Statement (.stxAbs w) := ⟨_, (rfl : lookup 0x8E#8 = _), rfl, rfl, rfl, rfl, rfl⟩
theorem styZp (b : Byte) : Statement (.styZp b) := ⟨_, (rfl : lookup 0x84#8 = _), rfl, rfl, rfl, rfl, rfl⟩
theorem styZpx (b : Byte) : Statement (.styZpx b) := ⟨_, (rfl : lookup 0x94#8 = _), rfl, rfl, rfl, rfl, rfl⟩
theorem styAbs (w : Word) : Statement (.styAbs w) := ⟨_, (rfl : lookup 0x8C#8 = _), rfl, rfl, rfl, rfl, rfl⟩
theorem tax : Statement (.tax) := ⟨_, (rfl : lookup 0xAA#8 = _), rfl, rfl, rfl, rfl, rfl⟩
theorem tay : Statement (.tay) := ⟨_, (rfl : lookup 0xA8#8 = _), rfl, rfl, rfl, rfl, rfl⟩
theorem tsx : Statement (.tsx) := ⟨_, (rfl : lookup 0xBA#8 = _), rfl, rfl, rfl, rfl, rfl⟩
theorem txa : Statement (.txa) := ⟨_, (rfl : lookup 0x8A#8 = _), rfl, rfl, rfl, rfl, rfl⟩
theorem txs : Statement (.txs) := ⟨_, (rfl : lookup 0x9A#8 = _), rfl, rfl, rfl, rfl, rfl⟩
theorem tya : Statement (.tya) := ⟨_, (rfl : lookup 0x98#8 = _), rfl, rfl, rfl, rfl, rfl⟩

end Sys2Proof.Laws.OpcodeRow
end

