-- ==== Sys2Proof/Laws/Decode.lean ====
section
/-! SUPPORT. The laws of the decoder's table and of the encoder. -/
namespace Sys2Proof
open Sys2Proof.Machine

set_option maxRecDepth 4000 in
/-- The matrix of R87, row by row, is the opcode table of R86. -/
theorem opcodeTable_eq_matrix : opcodeTable = (List.range 16).flatMap opcodeMatrix := rfl

/-- The opcode table holds 151 rows (R86). -/
theorem opcodeTable_length : opcodeTable.length = 151 := by decide +kernel

/-- No two rows of the table have the same opcode byte: decoding is unambiguous. -/
theorem opcodeTable_opcodes_nodup : (opcodeTable.map fun r => r.descriptor.opcode.toNat).Pairwise (· < ·) := by
  decide +kernel

/-- Every descriptor of the table is well formed: no mnemonic is paired with a form its rule does not define (R233). -/
theorem opcodeTable_wf : (opcodeTable.all fun r => r.descriptor.wf && r.descriptor.length == r.assembly.length) = true := by
  decide +kernel

/-- Decoding at a byte the table does not hold (R88). -/
theorem decode_unknown {op : Byte} (rest : List Byte) (h : lookup op = none) :
    decode (op :: rest) = .error (.unknownOpcode op) := by
  simp [decode, h]

/-- What a lookup finds has the byte looked up as its opcode. -/
theorem lookup_opcode {op : Byte} {r : Row} (h : lookup op = some r) : r.descriptor.opcode = op := by
  have := List.find?_some h
  simpa using this

/-- What a lookup finds is a row of the table. -/
theorem lookup_mem {op : Byte} {r : Row} (h : lookup op = some r) : r ∈ opcodeTable := by
  rw [opcodeTable_eq_matrix, List.mem_flatMap]
  exact ⟨_, List.mem_range.2 (by omega), List.mem_of_find?_eq_some h⟩

/-- Rejection as an unknown opcode is the lookup's answer, whatever bytes follow. -/
theorem decode_eq_unknown_iff (op : Byte) (rest : List Byte) :
    decode (op :: rest) = .error (.unknownOpcode op) ↔ lookup op = none := by
  refine ⟨fun h => ?_, decode_unknown rest⟩
  cases hl : lookup op with
  | none => rfl
  | some r =>
    simp only [decode, hl] at h
    split at h <;> simp at h

/-! ## The table and the encoder agree, row by row -/

/-- The instruction a row makes of operand bytes is encoded as the row's opcode byte and those bytes. -/
def Row.Encodes (r : Row) : Prop :=
  match r.assembly with
  | .noOperand i => encode i = [r.descriptor.opcode]
  | .byteOperand make => ∀ b, encode (make b) = [r.descriptor.opcode, b]
  | .wordOperand make => ∀ w, encode (make w) = [r.descriptor.opcode, loByte w, hiByte w]

theorem opcodeRow0_encodes : ∀ r ∈ opcodeRow0, r.Encodes :=
  List.forall_iff_forall_mem.1 ⟨rfl, fun _ => rfl, fun _ => rfl, fun _ => rfl, rfl, fun _ => rfl, rfl, fun _ =>
    rfl, fun _ => rfl⟩

theorem opcodeRow1_encodes : ∀ r ∈ opcodeRow1, r.Encodes :=
  List.forall_iff_forall_mem.1 ⟨fun _ => rfl, fun _ => rfl, fun _ => rfl, fun _ => rfl, rfl, fun _ => rfl, fun _
    => rfl, fun _ => rfl⟩

theorem opcodeRow2_encodes : ∀ r ∈ opcodeRow2, r.Encodes :=
  List.forall_iff_forall_mem.1 ⟨fun _ => rfl, fun _ => rfl, fun _ => rfl, fun _ => rfl, fun _ => rfl, rfl, fun _
    => rfl, rfl, fun _ => rfl, fun _ => rfl, fun _ => rfl⟩

theorem opcodeRow3_encodes : ∀ r ∈ opcodeRow3, r.Encodes :=
  List.forall_iff_forall_mem.1 ⟨fun _ => rfl, fun _ => rfl, fun _ => rfl, fun _ => rfl, rfl, fun _ => rfl, fun _
    => rfl, fun _ => rfl⟩

theorem opcodeRow4_encodes : ∀ r ∈ opcodeRow4, r.Encodes :=
  List.forall_iff_forall_mem.1 ⟨rfl, fun _ => rfl, fun _ => rfl, fun _ => rfl, rfl, fun _ => rfl, rfl, fun _ =>
    rfl, fun _ => rfl, fun _ => rfl⟩

theorem opcodeRow5_encodes : ∀ r ∈ opcodeRow5, r.Encodes :=
  List.forall_iff_forall_mem.1 ⟨fun _ => rfl, fun _ => rfl, fun _ => rfl, fun _ => rfl, rfl, fun _ => rfl, fun _
    => rfl, fun _ => rfl⟩

theorem opcodeRow6_encodes : ∀ r ∈ opcodeRow6, r.Encodes :=
  List.forall_iff_forall_mem.1 ⟨rfl, fun _ => rfl, fun _ => rfl, fun _ => rfl, rfl, fun _ => rfl, rfl, fun _ =>
    rfl, fun _ => rfl, fun _ => rfl⟩

theorem opcodeRow7_encodes : ∀ r ∈ opcodeRow7, r.Encodes :=
  List.forall_iff_forall_mem.1 ⟨fun _ => rfl, fun _ => rfl, fun _ => rfl, fun _ => rfl, rfl, fun _ => rfl, fun _
    => rfl, fun _ => rfl⟩

theorem opcodeRow8_encodes : ∀ r ∈ opcodeRow8, r.Encodes :=
  List.forall_iff_forall_mem.1 ⟨fun _ => rfl, fun _ => rfl, fun _ => rfl, fun _ => rfl, rfl, rfl, fun _ => rfl,
    fun _ => rfl, fun _ => rfl⟩

theorem opcodeRow9_encodes : ∀ r ∈ opcodeRow9, r.Encodes :=
  List.forall_iff_forall_mem.1 ⟨fun _ => rfl, fun _ => rfl, fun _ => rfl, fun _ => rfl, fun _ => rfl, rfl, fun _
    => rfl, rfl, fun _ => rfl⟩

theorem opcodeRowA_encodes : ∀ r ∈ opcodeRowA, r.Encodes :=
  List.forall_iff_forall_mem.1 ⟨fun _ => rfl, fun _ => rfl, fun _ => rfl, fun _ => rfl, fun _ => rfl, fun _ =>
    rfl, rfl, fun _ => rfl, rfl, fun _ => rfl, fun _ => rfl, fun _ => rfl⟩

theorem opcodeRowB_encodes : ∀ r ∈ opcodeRowB, r.Encodes :=
  List.forall_iff_forall_mem.1 ⟨fun _ => rfl, fun _ => rfl, fun _ => rfl, fun _ => rfl, fun _ => rfl, rfl, fun _
    => rfl, rfl, fun _ => rfl, fun _ => rfl, fun _ => rfl⟩

theorem opcodeRowC_encodes : ∀ r ∈ opcodeRowC, r.Encodes :=
  List.forall_iff_forall_mem.1 ⟨fun _ => rfl, fun _ => rfl, fun _ => rfl, fun _ => rfl, fun _ => rfl, rfl, fun _
    => rfl, rfl, fun _ => rfl, fun _ => rfl, fun _ => rfl⟩

theorem opcodeRowD_encodes : ∀ r ∈ opcodeRowD, r.Encodes :=
  List.forall_iff_forall_mem.1 ⟨fun _ => rfl, fun _ => rfl, fun _ => rfl, fun _ => rfl, rfl, fun _ => rfl, fun _
    => rfl, fun _ => rfl⟩

theorem opcodeRowE_encodes : ∀ r ∈ opcodeRowE, r.Encodes :=
  List.forall_iff_forall_mem.1 ⟨fun _ => rfl, fun _ => rfl, fun _ => rfl, fun _ => rfl, fun _ => rfl, rfl, fun _
    => rfl, rfl, fun _ => rfl, fun _ => rfl, fun _ => rfl⟩

theorem opcodeRowF_encodes : ∀ r ∈ opcodeRowF, r.Encodes :=
  List.forall_iff_forall_mem.1 ⟨fun _ => rfl, fun _ => rfl, fun _ => rfl, fun _ => rfl, rfl, fun _ => rfl, fun _
    => rfl, fun _ => rfl⟩

/-- Every row of the table agrees with the encoder. -/
theorem opcodeTable_encodes : ∀ r ∈ opcodeTable, r.Encodes := by
  simp only [opcodeTable, List.forall_mem_append]
  exact ⟨⟨⟨⟨⟨⟨⟨⟨⟨⟨⟨⟨⟨⟨⟨opcodeRow0_encodes, opcodeRow1_encodes⟩, opcodeRow2_encodes⟩, opcodeRow3_encodes⟩,
    opcodeRow4_encodes⟩, opcodeRow5_encodes⟩, opcodeRow6_encodes⟩, opcodeRow7_encodes⟩, opcodeRow8_encodes⟩,
    opcodeRow9_encodes⟩, opcodeRowA_encodes⟩, opcodeRowB_encodes⟩, opcodeRowC_encodes⟩, opcodeRowD_encodes⟩,
    opcodeRowE_encodes⟩, opcodeRowF_encodes⟩

/-- An encoding is never empty: it begins with the opcode byte (R80). -/
theorem encode_eq_cons (i : Instr) : encode i = i.opcode :: i.operand.bytes := rfl

end Sys2Proof
end

