-- ==== Sys2Proof/Laws/Flags.lean ====
section
/-! SUPPORT. What each flag computation can do, once: the helper of R118, the byte view of R27, the adder of R150 and the
compare core of R157. -/
namespace Sys2Proof.Machine

/-! ## `setZN` writes Z and N only (R118, R119) -/

@[simp] theorem Flags.setZN_z (p : Flags) (v : Byte) : (p.setZN v).z = (v == 0#8) := rfl
@[simp] theorem Flags.setZN_n (p : Flags) (v : Byte) : (p.setZN v).n = v.getLsbD 7 := rfl
@[simp] theorem Flags.setZN_v (p : Flags) (w : Byte) : (p.setZN w).v = p.v := rfl
@[simp] theorem Flags.setZN_b (p : Flags) (v : Byte) : (p.setZN v).b = p.b := rfl
@[simp] theorem Flags.setZN_d (p : Flags) (v : Byte) : (p.setZN v).d = p.d := rfl
@[simp] theorem Flags.setZN_i (p : Flags) (v : Byte) : (p.setZN v).i = p.i := rfl
@[simp] theorem Flags.setZN_c (p : Flags) (v : Byte) : (p.setZN v).c = p.c := rfl

/-! ## The flags of a sum, a compare, a bit test and a shift -/

@[simp] theorem Flags.ofSum_c (p : Flags) (r : Sum) : (p.ofSum r).c = r.carry := rfl
@[simp] theorem Flags.ofSum_v (p : Flags) (r : Sum) : (p.ofSum r).v = r.overflow := rfl
@[simp] theorem Flags.ofSum_z (p : Flags) (r : Sum) : (p.ofSum r).z = (r.result == 0#8) := rfl
@[simp] theorem Flags.ofSum_n (p : Flags) (r : Sum) : (p.ofSum r).n = r.result.getLsbD 7 := rfl
@[simp] theorem Flags.ofSum_b (p : Flags) (r : Sum) : (p.ofSum r).b = p.b := rfl
@[simp] theorem Flags.ofSum_d (p : Flags) (r : Sum) : (p.ofSum r).d = p.d := rfl
@[simp] theorem Flags.ofSum_i (p : Flags) (r : Sum) : (p.ofSum r).i = p.i := rfl
@[simp] theorem Flags.compare_c (p : Flags) (reg m : Byte) : (p.compare reg m).c = decide (m.toNat ≤ reg.toNat) := rfl
@[simp] theorem Flags.compare_z (p : Flags) (reg m : Byte) : (p.compare reg m).z = (reg - m == 0#8) := rfl
@[simp] theorem Flags.compare_n (p : Flags) (reg m : Byte) : (p.compare reg m).n = (reg - m).getLsbD 7 := rfl
@[simp] theorem Flags.compare_v (p : Flags) (reg m : Byte) : (p.compare reg m).v = p.v := rfl
@[simp] theorem Flags.compare_b (p : Flags) (reg m : Byte) : (p.compare reg m).b = p.b := rfl
@[simp] theorem Flags.compare_d (p : Flags) (reg m : Byte) : (p.compare reg m).d = p.d := rfl
@[simp] theorem Flags.compare_i (p : Flags) (reg m : Byte) : (p.compare reg m).i = p.i := rfl
@[simp] theorem Flags.bitTest_z (p : Flags) (a m : Byte) : (p.bitTest a m).z = (a &&& m == 0#8) := rfl
@[simp] theorem Flags.bitTest_n (p : Flags) (a m : Byte) : (p.bitTest a m).n = m.getLsbD 7 := rfl
@[simp] theorem Flags.bitTest_v (p : Flags) (a m : Byte) : (p.bitTest a m).v = m.getLsbD 6 := rfl
@[simp] theorem Flags.bitTest_b (p : Flags) (a m : Byte) : (p.bitTest a m).b = p.b := rfl
@[simp] theorem Flags.bitTest_d (p : Flags) (a m : Byte) : (p.bitTest a m).d = p.d := rfl
@[simp] theorem Flags.bitTest_i (p : Flags) (a m : Byte) : (p.bitTest a m).i = p.i := rfl
@[simp] theorem Flags.bitTest_c (p : Flags) (a m : Byte) : (p.bitTest a m).c = p.c := rfl
@[simp] theorem Flags.ofShift_c (p : Flags) (r : Shifted) : (p.ofShift r).c = r.carry := rfl
@[simp] theorem Flags.ofShift_z (p : Flags) (r : Shifted) : (p.ofShift r).z = (r.result == 0#8) := rfl
@[simp] theorem Flags.ofShift_n (p : Flags) (r : Shifted) : (p.ofShift r).n = r.result.getLsbD 7 := rfl
@[simp] theorem Flags.ofShift_v (p : Flags) (r : Shifted) : (p.ofShift r).v = p.v := rfl
@[simp] theorem Flags.ofShift_b (p : Flags) (r : Shifted) : (p.ofShift r).b = p.b := rfl
@[simp] theorem Flags.ofShift_d (p : Flags) (r : Shifted) : (p.ofShift r).d = p.d := rfl
@[simp] theorem Flags.ofShift_i (p : Flags) (r : Shifted) : (p.ofShift r).i = p.i := rfl

/-! ## The adder -/

/-- The adder's result byte, as a number (R150). -/
theorem toNat_add8_result (a m : Byte) (c : Bool) :
    (add8 a m c).result.toNat = (a.toNat + m.toNat + c.toNat) % 256 := by
  simp [add8]

/-- The adder's carry out (R150). -/
theorem add8_carry (a m : Byte) (c : Bool) :
    (add8 a m c).carry = decide (a.toNat + m.toNat + c.toNat > 255) := rfl

/-! ## The status byte -/

/-- What a pull recovers of a pushed status: every flag but B, which is cleared (R123, R213). -/
theorem Flags.ofPulled_pushed (p : Flags) : Flags.ofPulled p.pushed = { p with b := false } := by
  obtain ⟨n, v, b, d, i, z, c⟩ := p
  cases n <;> cases v <;> cases b <;> cases d <;> cases i <;> cases z <;> cases c <;> rfl

/-- Bit 5 of the byte view always reads 1 (R27). -/
theorem Flags.toByte_bit5 (p : Flags) : p.toByte.getLsbD 5 = true := by
  obtain ⟨n, v, b, d, i, z, c⟩ := p
  cases n <;> cases v <;> cases b <;> cases d <;> cases i <;> cases z <;> cases c <;> rfl

end Sys2Proof.Machine
end

