-- ==== Sys2Proof/Laws/Memory.lean ====
section
/-! SUPPORT. The laws of the address space: read after write (R52), and every operation keeps the canonical form. -/
namespace Sys2Proof.Machine

/-! ## Read after write: these hold of every list, canonical or not -/

theorem Memory.get_erase_same (m : Memory) (k : Nat) : (m.erase k).get k = Memory.unlisted := by
  induction m with
  | nil => rfl
  | cons c rest ih =>
    obtain ⟨k', v⟩ := c
    by_cases h : k' = k <;> simp [Memory.erase, Memory.get, h, ih]

theorem Memory.get_erase_other (m : Memory) {k j : Nat} (hne : j ≠ k) : (m.erase k).get j = m.get j := by
  induction m with
  | nil => rfl
  | cons c rest ih =>
    obtain ⟨k', v⟩ := c
    by_cases h : k' = k
    · have : k' ≠ j := fun e => hne (e.symm.trans h)
      simp [Memory.erase, Memory.get, h, ih, Ne.symm hne]
    · simp [Memory.erase, Memory.get, h, ih]

theorem Memory.get_insert_same (m : Memory) (k : Nat) (v : Byte) : (m.insert k v).get k = v := by
  induction m with
  | nil => simp [Memory.insert, Memory.get]
  | cons c rest ih =>
    obtain ⟨k', v'⟩ := c
    by_cases h : k < k'
    · simp [Memory.insert, Memory.get, h]
    · by_cases e : k' = k <;> simp [Memory.insert, Memory.get, h, e, ih]

theorem Memory.get_insert_other (m : Memory) {k j : Nat} (v : Byte) (hne : j ≠ k) :
    (m.insert k v).get j = m.get j := by
  induction m with
  | nil => simp [Memory.insert, Memory.get, Ne.symm hne]
  | cons c rest ih =>
    obtain ⟨k', v'⟩ := c
    by_cases h : k < k'
    · simp [Memory.insert, Memory.get, h, Ne.symm hne]
    · by_cases e : k' = k
      · simp [Memory.insert, Memory.get, e, Ne.symm hne]
      · simp [Memory.insert, Memory.get, h, e, ih]

@[simp] theorem Memory.get_set_same (m : Memory) (k : Nat) (v : Byte) : (m.set k v).get k = v := by
  by_cases h : v = Memory.unlisted
  · simp [Memory.set, h, Memory.get_erase_same]
  · simp [Memory.set, h, Memory.get_insert_same]

theorem Memory.get_set_other (m : Memory) {k j : Nat} (v : Byte) (hne : j ≠ k) :
    (m.set k v).get j = m.get j := by
  by_cases h : v = Memory.unlisted
  · simp [Memory.set, h, Memory.get_erase_other m hne]
  · simp [Memory.set, h, Memory.get_insert_other m v hne]

/-- A byte written is the byte read (R52). -/
@[simp] theorem Memory.read_write_same (m : Memory) (a : Word) (v : Byte) : (m.write a v).read a = v :=
  Memory.get_set_same m a.toNat v

/-- A write leaves every other address alone (R52). -/
theorem Memory.read_write_other (m : Memory) {a b : Word} (v : Byte) (hne : b ≠ a) :
    (m.write a v).read b = m.read b :=
  Memory.get_set_other m v fun h => hne (BitVec.eq_of_toNat_eq h)

/-- A read after a write, both cases at once. -/
theorem Memory.read_write (m : Memory) (a b : Word) (v : Byte) :
    (m.write a v).read b = if b = a then v else m.read b := by
  by_cases h : b = a
  · simp [h]
  · simp [h, Memory.read_write_other m v h]

/-- The memory that lists nothing reads as `Memory.unlisted` everywhere. -/
@[simp] theorem Memory.read_nil (a : Word) : Memory.read [] a = Memory.unlisted := rfl

/-! ## Loading a program (R51) -/

/-- An address that no byte of the program goes to reads as before. -/
theorem Memory.read_loadProgram_other (program : List Byte) (m : Memory) (start a : Word)
    (h : ∀ k, k < program.length → a ≠ start + BitVec.ofNat 16 k) : (m.loadProgram program start).read a = m.read a := by
  induction program generalizing m start with
  | nil => rfl
  | cons b rest ih =>
    have h0 : a ≠ start := by simpa using h 0 (by simp)
    rw [Memory.loadProgram, ih, Memory.read_write_other _ _ h0]
    intro k hk e
    refine h (k + 1) (by simpa using hk) (e.trans ?_)
    apply BitVec.eq_of_toNat_eq
    simp [BitVec.toNat_add]
    omega

/-- Byte `k` of a program that ends inside the address space stands at `start + k`. -/
theorem Memory.read_loadProgram (program : List Byte) (m : Memory) (start : Word)
    (hlen : start.toNat + program.length ≤ 65536) (k : Nat) (hk : k < program.length) :
    (m.loadProgram program start).read (start + BitVec.ofNat 16 k) = program[k] := by
  induction program generalizing m start k with
  | nil => cases hk
  | cons b rest ih =>
    simp only [List.length_cons] at hlen hk
    cases k with
    | zero =>
      rw [Memory.loadProgram, Memory.read_loadProgram_other]
      · simp
      · intro k hk e
        have := congrArg BitVec.toNat e
        simp [BitVec.toNat_add] at this
        omega
    | succ k =>
      have e : start + BitVec.ofNat 16 (k + 1) = start + 1 + BitVec.ofNat 16 k := by
        apply BitVec.eq_of_toNat_eq
        simp [BitVec.toNat_add]
        omega
      rw [e, Memory.loadProgram]
      exact ih _ _ (by simp [BitVec.toNat_add]; omega) k (by omega)

/-! ## The canonical form -/

theorem Memory.wfFrom_cons {lo k : Nat} {v : Byte} {rest : Memory} :
    Memory.wfFrom lo ((k, v) :: rest) = true ↔
      lo ≤ k ∧ k < 65536 ∧ v ≠ Memory.unlisted ∧ Memory.wfFrom (k + 1) rest = true := by
  simp [Memory.wfFrom, and_assoc]

theorem Memory.wfFrom_mono {lo lo' : Nat} {m : Memory} (hle : lo' ≤ lo) (h : Memory.wfFrom lo m = true) :
    Memory.wfFrom lo' m = true := by
  cases m with
  | nil => rfl
  | cons c rest =>
    rw [Memory.wfFrom_cons] at h ⊢
    exact ⟨hle.trans h.1, h.2⟩

theorem Memory.wfFrom_erase {lo : Nat} {m : Memory} (k : Nat) (h : Memory.wfFrom lo m = true) :
    Memory.wfFrom lo (m.erase k) = true := by
  induction m generalizing lo with
  | nil => rfl
  | cons c rest ih =>
    obtain ⟨k', v⟩ := c
    rw [Memory.wfFrom_cons] at h
    by_cases e : k' = k
    · simp only [Memory.erase, e, if_true]
      exact Memory.wfFrom_mono (by omega) (ih h.2.2.2)
    · simp only [Memory.erase, e, if_false]
      exact Memory.wfFrom_cons.2 ⟨h.1, h.2.1, h.2.2.1, ih h.2.2.2⟩

theorem Memory.wfFrom_insert {lo k : Nat} {m : Memory} {v : Byte} (hlo : lo ≤ k) (hk : k < 65536)
    (hv : v ≠ Memory.unlisted) (h : Memory.wfFrom lo m = true) : Memory.wfFrom lo (m.insert k v) = true := by
  induction m generalizing lo with
  | nil => simpa [Memory.insert, Memory.wfFrom] using ⟨⟨hlo, hk⟩, hv⟩
  | cons c rest ih =>
    obtain ⟨k', v'⟩ := c
    rw [Memory.wfFrom_cons] at h
    unfold Memory.insert
    split
    · next hlt => exact Memory.wfFrom_cons.2 ⟨hlo, hk, hv, Memory.wfFrom_cons.2 ⟨by omega, h.2⟩⟩
    · split
      · next e => subst e; exact Memory.wfFrom_cons.2 ⟨hlo, hk, hv, h.2.2.2⟩
      · next hge hne => exact Memory.wfFrom_cons.2 ⟨h.1, h.2.1, h.2.2.1, ih (by omega) h.2.2.2⟩

/-- A write keeps the canonical form. -/
theorem Memory.wf_write {m : Memory} (a : Word) (v : Byte) (h : m.wf = true) : (m.write a v).wf = true := by
  unfold Memory.write Memory.set
  split
  · exact Memory.wfFrom_erase _ h
  · next hv => exact Memory.wfFrom_insert (Nat.zero_le _) a.isLt hv h

theorem Memory.wf_write16 {m : Memory} (a w : Word) (h : m.wf = true) : (m.write16 a w).wf = true :=
  Memory.wf_write _ _ (Memory.wf_write _ _ h)

theorem Memory.wf_loadProgram {m : Memory} (program : List Byte) (start : Word) (h : m.wf = true) :
    (m.loadProgram program start).wf = true := by
  induction program generalizing m start with
  | nil => exact h
  | cons b rest ih => exact ih (start + 1) (Memory.wf_write start b h)

theorem Memory.wf_setResetVector {m : Memory} (entry : Word) (h : m.wf = true) :
    (m.setResetVector entry).wf = true :=
  Memory.wf_write16 _ _ h

/-- The memory that lists nothing is in canonical form. -/
@[simp] theorem Memory.wf_nil : Memory.wf [] = true := rfl

theorem Memory.get_eq_unlisted_of_lt {lo k : Nat} {m : Memory} (h : Memory.wfFrom lo m = true) (hk : k < lo) :
    m.get k = Memory.unlisted := by
  induction m generalizing lo with
  | nil => rfl
  | cons c rest ih =>
    obtain ⟨k', v⟩ := c
    rw [Memory.wfFrom_cons] at h
    have : k' ≠ k := by omega
    simp [Memory.get, this, ih h.2.2.2 (by omega)]

theorem Memory.wfFrom_ext {lo : Nat} {m m' : Memory} (h : Memory.wfFrom lo m = true)
    (h' : Memory.wfFrom lo m' = true) (heq : ∀ k, k < 65536 → m.get k = m'.get k) : m = m' := by
  induction m generalizing lo m' with
  | nil =>
    cases m' with
    | nil => rfl
    | cons c' rest' =>
      rw [Memory.wfFrom_cons] at h'
      have := heq c'.1 h'.2.1
      simp [Memory.get] at this
      exact absurd this.symm h'.2.2.1
  | cons c rest ih =>
    obtain ⟨k, v⟩ := c
    rw [Memory.wfFrom_cons] at h
    cases m' with
    | nil =>
      have := heq k h.2.1
      simp [Memory.get] at this
      exact absurd this h.2.2.1
    | cons c' rest' =>
      obtain ⟨k', v'⟩ := c'
      rw [Memory.wfFrom_cons] at h'
      have hk : k = k' := by
        rcases Nat.lt_trichotomy k k' with hlt | e | hgt
        · have := heq k h.2.1
          simp [Memory.get, Nat.ne_of_gt hlt,
            Memory.get_eq_unlisted_of_lt h'.2.2.2 (Nat.lt_succ_of_lt hlt)] at this
          exact absurd this h.2.2.1
        · exact e
        · have := heq k' h'.2.1
          simp [Memory.get, Nat.ne_of_gt hgt,
            Memory.get_eq_unlisted_of_lt h.2.2.2 (Nat.lt_succ_of_lt hgt)] at this
          exact absurd this.symm h'.2.2.1
      subst hk
      have hv : v = v' := by simpa [Memory.get] using heq k h.2.1
      subst hv
      congr 1
      refine ih h.2.2.2 h'.2.2.2 fun j hj => ?_
      by_cases e : k = j
      · subst e
        rw [Memory.get_eq_unlisted_of_lt h.2.2.2 (Nat.lt_succ_self _),
          Memory.get_eq_unlisted_of_lt h'.2.2.2 (Nat.lt_succ_self _)]
      · simpa [Memory.get, e] using heq j hj

/-- Two memories in canonical form that read the same everywhere are the same list. -/
theorem Memory.ext_of_read {m m' : Memory} (h : m.wf = true) (h' : m'.wf = true)
    (heq : ∀ a : Word, m.read a = m'.read a) : m = m' :=
  Memory.wfFrom_ext h h' fun k hk => by
    have := heq (BitVec.ofNat 16 k)
    simpa [Memory.read, Nat.mod_eq_of_lt hk] using this

end Sys2Proof.Machine
end

