-- ==== Sys2Proof/Laws/State.lean ====
section
/-! SUPPORT. One lemma per field per update of State, true by rfl, and what a read sees after each update. -/
namespace Sys2Proof.Machine

/-! ## `setA` -/

@[simp] theorem State.setA_a (s : State) (v : Byte) : (s.setA v).a = v := rfl
@[simp] theorem State.setA_x (s : State) (v : Byte) : (s.setA v).x = s.x := rfl
@[simp] theorem State.setA_y (s : State) (v : Byte) : (s.setA v).y = s.y := rfl
@[simp] theorem State.setA_sp (s : State) (v : Byte) : (s.setA v).sp = s.sp := rfl
@[simp] theorem State.setA_pc (s : State) (v : Byte) : (s.setA v).pc = s.pc := rfl
@[simp] theorem State.setA_p (s : State) (v : Byte) : (s.setA v).p = s.p := rfl
@[simp] theorem State.setA_halted (s : State) (v : Byte) : (s.setA v).halted = s.halted := rfl
@[simp] theorem State.setA_fault (s : State) (v : Byte) : (s.setA v).fault = s.fault := rfl
@[simp] theorem State.setA_mem (s : State) (v : Byte) : (s.setA v).mem = s.mem := rfl
@[simp] theorem State.setA_cfg (s : State) (v : Byte) : (s.setA v).cfg = s.cfg := rfl
@[simp] theorem State.setA_readByte (s : State) (v : Byte) (a : Word) : (s.setA v).readByte a = s.readByte a := rfl

/-! ## `setX` -/

@[simp] theorem State.setX_a (s : State) (v : Byte) : (s.setX v).a = s.a := rfl
@[simp] theorem State.setX_x (s : State) (v : Byte) : (s.setX v).x = v := rfl
@[simp] theorem State.setX_y (s : State) (v : Byte) : (s.setX v).y = s.y := rfl
@[simp] theorem State.setX_sp (s : State) (v : Byte) : (s.setX v).sp = s.sp := rfl
@[simp] theorem State.setX_pc (s : State) (v : Byte) : (s.setX v).pc = s.pc := rfl
@[simp] theorem State.setX_p (s : State) (v : Byte) : (s.setX v).p = s.p := rfl
@[simp] theorem State.setX_halted (s : State) (v : Byte) : (s.setX v).halted = s.halted := rfl
@[simp] theorem State.setX_fault (s : State) (v : Byte) : (s.setX v).fault = s.fault := rfl
@[simp] theorem State.setX_mem (s : State) (v : Byte) : (s.setX v).mem = s.mem := rfl
@[simp] theorem State.setX_cfg (s : State) (v : Byte) : (s.setX v).cfg = s.cfg := rfl
@[simp] theorem State.setX_readByte (s : State) (v : Byte) (a : Word) : (s.setX v).readByte a = s.readByte a := rfl

/-! ## `setY` -/

@[simp] theorem State.setY_a (s : State) (v : Byte) : (s.setY v).a = s.a := rfl
@[simp] theorem State.setY_x (s : State) (v : Byte) : (s.setY v).x = s.x := rfl
@[simp] theorem State.setY_y (s : State) (v : Byte) : (s.setY v).y = v := rfl
@[simp] theorem State.setY_sp (s : State) (v : Byte) : (s.setY v).sp = s.sp := rfl
@[simp] theorem State.setY_pc (s : State) (v : Byte) : (s.setY v).pc = s.pc := rfl
@[simp] theorem State.setY_p (s : State) (v : Byte) : (s.setY v).p = s.p := rfl
@[simp] theorem State.setY_halted (s : State) (v : Byte) : (s.setY v).halted = s.halted := rfl
@[simp] theorem State.setY_fault (s : State) (v : Byte) : (s.setY v).fault = s.fault := rfl
@[simp] theorem State.setY_mem (s : State) (v : Byte) : (s.setY v).mem = s.mem := rfl
@[simp] theorem State.setY_cfg (s : State) (v : Byte) : (s.setY v).cfg = s.cfg := rfl
@[simp] theorem State.setY_readByte (s : State) (v : Byte) (a : Word) : (s.setY v).readByte a = s.readByte a := rfl

/-! ## `setSp` -/

@[simp] theorem State.setSp_a (s : State) (v : Byte) : (s.setSp v).a = s.a := rfl
@[simp] theorem State.setSp_x (s : State) (v : Byte) : (s.setSp v).x = s.x := rfl
@[simp] theorem State.setSp_y (s : State) (v : Byte) : (s.setSp v).y = s.y := rfl
@[simp] theorem State.setSp_sp (s : State) (v : Byte) : (s.setSp v).sp = v := rfl
@[simp] theorem State.setSp_pc (s : State) (v : Byte) : (s.setSp v).pc = s.pc := rfl
@[simp] theorem State.setSp_p (s : State) (v : Byte) : (s.setSp v).p = s.p := rfl
@[simp] theorem State.setSp_halted (s : State) (v : Byte) : (s.setSp v).halted = s.halted := rfl
@[simp] theorem State.setSp_fault (s : State) (v : Byte) : (s.setSp v).fault = s.fault := rfl
@[simp] theorem State.setSp_mem (s : State) (v : Byte) : (s.setSp v).mem = s.mem := rfl
@[simp] theorem State.setSp_cfg (s : State) (v : Byte) : (s.setSp v).cfg = s.cfg := rfl
@[simp] theorem State.setSp_readByte (s : State) (v : Byte) (a : Word) : (s.setSp v).readByte a = s.readByte a := rfl

/-! ## `setPc` -/

@[simp] theorem State.setPc_a (s : State) (t : Word) : (s.setPc t).a = s.a := rfl
@[simp] theorem State.setPc_x (s : State) (t : Word) : (s.setPc t).x = s.x := rfl
@[simp] theorem State.setPc_y (s : State) (t : Word) : (s.setPc t).y = s.y := rfl
@[simp] theorem State.setPc_sp (s : State) (t : Word) : (s.setPc t).sp = s.sp := rfl
@[simp] theorem State.setPc_pc (s : State) (t : Word) : (s.setPc t).pc = t := rfl
@[simp] theorem State.setPc_p (s : State) (t : Word) : (s.setPc t).p = s.p := rfl
@[simp] theorem State.setPc_halted (s : State) (t : Word) : (s.setPc t).halted = s.halted := rfl
@[simp] theorem State.setPc_fault (s : State) (t : Word) : (s.setPc t).fault = s.fault := rfl
@[simp] theorem State.setPc_mem (s : State) (t : Word) : (s.setPc t).mem = s.mem := rfl
@[simp] theorem State.setPc_cfg (s : State) (t : Word) : (s.setPc t).cfg = s.cfg := rfl
@[simp] theorem State.setPc_readByte (s : State) (t : Word) (a : Word) : (s.setPc t).readByte a = s.readByte a := rfl

/-! ## `setFlags` -/

@[simp] theorem State.setFlags_a (s : State) (p : Flags) : (s.setFlags p).a = s.a := rfl
@[simp] theorem State.setFlags_x (s : State) (p : Flags) : (s.setFlags p).x = s.x := rfl
@[simp] theorem State.setFlags_y (s : State) (p : Flags) : (s.setFlags p).y = s.y := rfl
@[simp] theorem State.setFlags_sp (s : State) (p : Flags) : (s.setFlags p).sp = s.sp := rfl
@[simp] theorem State.setFlags_pc (s : State) (p : Flags) : (s.setFlags p).pc = s.pc := rfl
@[simp] theorem State.setFlags_p (s : State) (p : Flags) : (s.setFlags p).p = p := rfl
@[simp] theorem State.setFlags_halted (s : State) (p : Flags) : (s.setFlags p).halted = s.halted := rfl
@[simp] theorem State.setFlags_fault (s : State) (p : Flags) : (s.setFlags p).fault = s.fault := rfl
@[simp] theorem State.setFlags_mem (s : State) (p : Flags) : (s.setFlags p).mem = s.mem := rfl
@[simp] theorem State.setFlags_cfg (s : State) (p : Flags) : (s.setFlags p).cfg = s.cfg := rfl
@[simp] theorem State.setFlags_readByte (s : State) (p : Flags) (a : Word) : (s.setFlags p).readByte a = s.readByte a := rfl

/-! ## `setZN` -/

@[simp] theorem State.setZN_a (s : State) (v : Byte) : (s.setZN v).a = s.a := rfl
@[simp] theorem State.setZN_x (s : State) (v : Byte) : (s.setZN v).x = s.x := rfl
@[simp] theorem State.setZN_y (s : State) (v : Byte) : (s.setZN v).y = s.y := rfl
@[simp] theorem State.setZN_sp (s : State) (v : Byte) : (s.setZN v).sp = s.sp := rfl
@[simp] theorem State.setZN_pc (s : State) (v : Byte) : (s.setZN v).pc = s.pc := rfl
@[simp] theorem State.setZN_p (s : State) (v : Byte) : (s.setZN v).p = s.p.setZN v := rfl
@[simp] theorem State.setZN_halted (s : State) (v : Byte) : (s.setZN v).halted = s.halted := rfl
@[simp] theorem State.setZN_fault (s : State) (v : Byte) : (s.setZN v).fault = s.fault := rfl
@[simp] theorem State.setZN_mem (s : State) (v : Byte) : (s.setZN v).mem = s.mem := rfl
@[simp] theorem State.setZN_cfg (s : State) (v : Byte) : (s.setZN v).cfg = s.cfg := rfl
@[simp] theorem State.setZN_readByte (s : State) (v : Byte) (a : Word) : (s.setZN v).readByte a = s.readByte a := rfl

/-! ## `writeByte` -/

@[simp] theorem State.writeByte_a (s : State) (addr : Word) (v : Byte) : (s.writeByte addr v).a = s.a := rfl
@[simp] theorem State.writeByte_x (s : State) (addr : Word) (v : Byte) : (s.writeByte addr v).x = s.x := rfl
@[simp] theorem State.writeByte_y (s : State) (addr : Word) (v : Byte) : (s.writeByte addr v).y = s.y := rfl
@[simp] theorem State.writeByte_sp (s : State) (addr : Word) (v : Byte) : (s.writeByte addr v).sp = s.sp := rfl
@[simp] theorem State.writeByte_pc (s : State) (addr : Word) (v : Byte) : (s.writeByte addr v).pc = s.pc := rfl
@[simp] theorem State.writeByte_p (s : State) (addr : Word) (v : Byte) : (s.writeByte addr v).p = s.p := rfl
@[simp] theorem State.writeByte_halted (s : State) (addr : Word) (v : Byte) : (s.writeByte addr v).halted = s.halted := rfl
@[simp] theorem State.writeByte_fault (s : State) (addr : Word) (v : Byte) : (s.writeByte addr v).fault = s.fault := rfl
@[simp] theorem State.writeByte_mem (s : State) (addr : Word) (v : Byte) : (s.writeByte addr v).mem = s.mem.write addr v := rfl
@[simp] theorem State.writeByte_cfg (s : State) (addr : Word) (v : Byte) : (s.writeByte addr v).cfg = s.cfg := rfl

/-! ## `push` -/

@[simp] theorem State.push_a (s : State) (v : Byte) : (s.push v).a = s.a := rfl
@[simp] theorem State.push_x (s : State) (v : Byte) : (s.push v).x = s.x := rfl
@[simp] theorem State.push_y (s : State) (v : Byte) : (s.push v).y = s.y := rfl
@[simp] theorem State.push_sp (s : State) (v : Byte) : (s.push v).sp = s.sp - 1 := rfl
@[simp] theorem State.push_pc (s : State) (v : Byte) : (s.push v).pc = s.pc := rfl
@[simp] theorem State.push_p (s : State) (v : Byte) : (s.push v).p = s.p := rfl
@[simp] theorem State.push_halted (s : State) (v : Byte) : (s.push v).halted = s.halted := rfl
@[simp] theorem State.push_fault (s : State) (v : Byte) : (s.push v).fault = s.fault := rfl
@[simp] theorem State.push_mem (s : State) (v : Byte) : (s.push v).mem = s.mem.write (stackAddr s.sp) v := rfl
@[simp] theorem State.push_cfg (s : State) (v : Byte) : (s.push v).cfg = s.cfg := rfl

/-! ## `pushWord` -/

@[simp] theorem State.pushWord_a (s : State) (w : Word) : (s.pushWord w).a = s.a := rfl
@[simp] theorem State.pushWord_x (s : State) (w : Word) : (s.pushWord w).x = s.x := rfl
@[simp] theorem State.pushWord_y (s : State) (w : Word) : (s.pushWord w).y = s.y := rfl
@[simp] theorem State.pushWord_sp (s : State) (w : Word) : (s.pushWord w).sp = s.sp - 1 - 1 := rfl
@[simp] theorem State.pushWord_pc (s : State) (w : Word) : (s.pushWord w).pc = s.pc := rfl
@[simp] theorem State.pushWord_p (s : State) (w : Word) : (s.pushWord w).p = s.p := rfl
@[simp] theorem State.pushWord_halted (s : State) (w : Word) : (s.pushWord w).halted = s.halted := rfl
@[simp] theorem State.pushWord_fault (s : State) (w : Word) : (s.pushWord w).fault = s.fault := rfl
@[simp] theorem State.pushWord_mem (s : State) (w : Word) : (s.pushWord w).mem = (s.mem.write (stackAddr s.sp) (hiByte w)).write (stackAddr (s.sp - 1)) (loByte w) := rfl
@[simp] theorem State.pushWord_cfg (s : State) (w : Word) : (s.pushWord w).cfg = s.cfg := rfl

/-! ## `pullFlags` -/

@[simp] theorem State.pullFlags_a (s : State) : s.pullFlags.a = s.a := rfl
@[simp] theorem State.pullFlags_x (s : State) : s.pullFlags.x = s.x := rfl
@[simp] theorem State.pullFlags_y (s : State) : s.pullFlags.y = s.y := rfl
@[simp] theorem State.pullFlags_sp (s : State) : s.pullFlags.sp = s.sp + 1 := rfl
@[simp] theorem State.pullFlags_pc (s : State) : s.pullFlags.pc = s.pc := rfl
@[simp] theorem State.pullFlags_p (s : State) : s.pullFlags.p = Flags.ofPulled (s.readByte (stackAddr (s.sp + 1))) := rfl
@[simp] theorem State.pullFlags_halted (s : State) : s.pullFlags.halted = s.halted := rfl
@[simp] theorem State.pullFlags_fault (s : State) : s.pullFlags.fault = s.fault := rfl
@[simp] theorem State.pullFlags_mem (s : State) : s.pullFlags.mem = s.mem := rfl
@[simp] theorem State.pullFlags_cfg (s : State) : s.pullFlags.cfg = s.cfg := rfl
@[simp] theorem State.pullFlags_readByte (s : State) (a : Word) : s.pullFlags.readByte a = s.readByte a := rfl

/-! ## `returnFromInterrupt` -/

@[simp] theorem State.returnFromInterrupt_a (s : State) : s.returnFromInterrupt.a = s.a := rfl
@[simp] theorem State.returnFromInterrupt_x (s : State) : s.returnFromInterrupt.x = s.x := rfl
@[simp] theorem State.returnFromInterrupt_y (s : State) : s.returnFromInterrupt.y = s.y := rfl
@[simp] theorem State.returnFromInterrupt_sp (s : State) : s.returnFromInterrupt.sp = s.sp + 1 + 1 + 1 := rfl
@[simp] theorem State.returnFromInterrupt_pc (s : State) : s.returnFromInterrupt.pc = mkWord (s.readByte (stackAddr (s.sp + 1 + 1 + 1))) (s.readByte (stackAddr (s.sp + 1 + 1))) := rfl
@[simp] theorem State.returnFromInterrupt_p (s : State) : s.returnFromInterrupt.p = Flags.ofPulled (s.readByte (stackAddr (s.sp + 1))) := rfl
@[simp] theorem State.returnFromInterrupt_halted (s : State) : s.returnFromInterrupt.halted = s.halted := rfl
@[simp] theorem State.returnFromInterrupt_fault (s : State) : s.returnFromInterrupt.fault = s.fault := rfl
@[simp] theorem State.returnFromInterrupt_mem (s : State) : s.returnFromInterrupt.mem = s.mem := rfl
@[simp] theorem State.returnFromInterrupt_cfg (s : State) : s.returnFromInterrupt.cfg = s.cfg := rfl
@[simp] theorem State.returnFromInterrupt_readByte (s : State) (a : Word) : s.returnFromInterrupt.readByte a = s.readByte a := rfl

/-! ## `halt` -/

@[simp] theorem State.halt_a (s : State) : s.halt.a = s.a := rfl
@[simp] theorem State.halt_x (s : State) : s.halt.x = s.x := rfl
@[simp] theorem State.halt_y (s : State) : s.halt.y = s.y := rfl
@[simp] theorem State.halt_sp (s : State) : s.halt.sp = s.sp := rfl
@[simp] theorem State.halt_pc (s : State) : s.halt.pc = s.pc := rfl
@[simp] theorem State.halt_p (s : State) : s.halt.p = s.p := rfl
@[simp] theorem State.halt_halted (s : State) : s.halt.halted = true := rfl
@[simp] theorem State.halt_fault (s : State) : s.halt.fault = s.fault := rfl
@[simp] theorem State.halt_mem (s : State) : s.halt.mem = s.mem := rfl
@[simp] theorem State.halt_cfg (s : State) : s.halt.cfg = s.cfg := rfl
@[simp] theorem State.halt_readByte (s : State) (a : Word) : s.halt.readByte a = s.readByte a := rfl

/-! ## `raiseUnknownOpcode` -/

@[simp] theorem State.raiseUnknownOpcode_a (s : State) (op : Byte) (a0 : Word) : (s.raiseUnknownOpcode op a0).a = s.a := rfl
@[simp] theorem State.raiseUnknownOpcode_x (s : State) (op : Byte) (a0 : Word) : (s.raiseUnknownOpcode op a0).x = s.x := rfl
@[simp] theorem State.raiseUnknownOpcode_y (s : State) (op : Byte) (a0 : Word) : (s.raiseUnknownOpcode op a0).y = s.y := rfl
@[simp] theorem State.raiseUnknownOpcode_sp (s : State) (op : Byte) (a0 : Word) : (s.raiseUnknownOpcode op a0).sp = s.sp := rfl
@[simp] theorem State.raiseUnknownOpcode_pc (s : State) (op : Byte) (a0 : Word) : (s.raiseUnknownOpcode op a0).pc = s.pc := rfl
@[simp] theorem State.raiseUnknownOpcode_p (s : State) (op : Byte) (a0 : Word) : (s.raiseUnknownOpcode op a0).p = s.p := rfl
@[simp] theorem State.raiseUnknownOpcode_halted (s : State) (op : Byte) (a0 : Word) : (s.raiseUnknownOpcode op a0).halted = true := rfl
@[simp] theorem State.raiseUnknownOpcode_fault (s : State) (op : Byte) (a0 : Word) : (s.raiseUnknownOpcode op a0).fault = some { kind := .unknownOpcode, byte := op, address := a0 } := rfl
@[simp] theorem State.raiseUnknownOpcode_mem (s : State) (op : Byte) (a0 : Word) : (s.raiseUnknownOpcode op a0).mem = s.mem := rfl
@[simp] theorem State.raiseUnknownOpcode_cfg (s : State) (op : Byte) (a0 : Word) : (s.raiseUnknownOpcode op a0).cfg = s.cfg := rfl
@[simp] theorem State.raiseUnknownOpcode_readByte (s : State) (op : Byte) (a0 : Word) (a : Word) : (s.raiseUnknownOpcode op a0).readByte a = s.readByte a := rfl

/-! ## Reads after the updates that write memory -/

@[simp] theorem State.writeByte_readByte_same (s : State) (addr : Word) (v : Byte) :
    (s.writeByte addr v).readByte addr = v :=
  Memory.read_write_same s.mem addr v

theorem State.writeByte_readByte_other (s : State) {addr a : Word} (v : Byte) (hne : a ≠ addr) :
    (s.writeByte addr v).readByte a = s.readByte a :=
  Memory.read_write_other s.mem v hne

theorem State.writeByte_readByte (s : State) (addr a : Word) (v : Byte) :
    (s.writeByte addr v).readByte a = if a = addr then v else s.readByte a :=
  Memory.read_write s.mem addr a v

@[simp] theorem State.push_readByte_same (s : State) (v : Byte) : (s.push v).readByte (stackAddr s.sp) = v :=
  Memory.read_write_same s.mem _ v

theorem State.push_readByte_other (s : State) {a : Word} (v : Byte) (hne : a ≠ stackAddr s.sp) :
    (s.push v).readByte a = s.readByte a :=
  Memory.read_write_other s.mem v hne

/-! ## Pulling -/

@[simp] theorem State.pull_fst (s : State) : s.pull.1 = s.readByte (stackAddr (s.sp + 1)) := rfl
@[simp] theorem State.pull_snd (s : State) : s.pull.2 = s.setSp (s.sp + 1) := rfl
@[simp] theorem State.fetch8_fst (s : State) : s.fetch8.1 = s.readByte s.pc := rfl
@[simp] theorem State.fetch8_snd (s : State) : s.fetch8.2 = s.setPc (s.pc + 1) := rfl

/-- `fetch16` takes the two bytes at PC, low byte first, and moves PC past them. -/
theorem State.fetch16_eq (s : State) :
    s.fetch16 = (mkWord (s.readByte (s.pc + 1)) (s.readByte s.pc), s.setPc (s.pc + 1 + 1)) := rfl

/-- A pulled word: its low byte lies at the lower stack position (R203, R224). -/
theorem State.pullWord_eq (s : State) :
    s.pullWord = (mkWord (s.readByte (stackAddr (s.sp + 1 + 1))) (s.readByte (stackAddr (s.sp + 1))),
      s.setSp (s.sp + 1 + 1)) := rfl

@[simp] theorem State.pullWord_fst (s : State) :
    s.pullWord.1 = mkWord (s.readByte (stackAddr (s.sp + 1 + 1))) (s.readByte (stackAddr (s.sp + 1))) := rfl
@[simp] theorem State.pullWord_snd (s : State) : s.pullWord.2 = s.setSp (s.sp + 1 + 1) := rfl

/-- PLP's effect (R213): the flags of the pulled byte, and SP one higher. -/
theorem State.pullFlags_eq (s : State) :
    s.pullFlags = (s.setSp (s.sp + 1)).setFlags (Flags.ofPulled (s.readByte (stackAddr (s.sp + 1)))) := rfl

end Sys2Proof.Machine
end

