-- ==== Sys2Proof/Laws/Ops.lean ====
section
/-! SUPPORT. What the shared operations over the stack and memory do, and that each keeps the canonical form of memory. -/
namespace Sys2Proof.Machine

/-- The stack page (R23): SP denotes 0x0100 + SP. -/
theorem toNat_stackAddr (sp : Byte) : (stackAddr sp).toNat = 256 + sp.toNat := by
  have := sp.isLt
  simp only [stackAddr, BitVec.toNat_add, toNat_zext16, BitVec.toNat_ofNat]
  omega

theorem stackAddr_injective {p q : Byte} (h : stackAddr p = stackAddr q) : p = q := by
  apply BitVec.eq_of_toNat_eq
  have := congrArg BitVec.toNat h
  rw [toNat_stackAddr, toNat_stackAddr] at this
  omega

/-- Two stack addresses one apart are different cells, also where SP wraps (R120). -/
theorem stackAddr_pred_ne (sp : Byte) : stackAddr (sp - 1) ≠ stackAddr sp := fun h => by
  have := stackAddr_injective h
  bv_omega

/-- What a pull sees after a push: the pushed byte, and SP back where it was (R120, R121). -/
theorem State.pull_push (s : State) (v : Byte) : (s.push v).pull = (v, (s.push v).setSp s.sp) := by
  simp [State.pull]

/-- What a word pull sees after a word push (R201, R203). -/
theorem State.pullWord_pushWord (s : State) (w : Word) :
    (s.pushWord w).pullWord = (w, (s.pushWord w).setSp s.sp) := by
  have h1 : s.sp - 1 - 1 + 1 = s.sp - 1 := by bv_omega
  have h2 : s.sp - 1 + 1 = s.sp := by bv_omega
  have hne : stackAddr s.sp ≠ stackAddr (s.sp - 1) := Ne.symm (stackAddr_pred_ne s.sp)
  rw [State.pullWord_eq]
  simp only [State.pushWord, State.push_sp, h1, h2]
  rw [State.push_readByte_other _ _ (by simpa using hne), State.push_readByte_same]
  have : ((s.push (hiByte w)).push (loByte w)).readByte (stackAddr (s.sp - 1)) = loByte w :=
    State.push_readByte_same (s.push (hiByte w)) (loByte w)
  rw [this, mkWord_hiByte_loByte]

/-! ## The canonical form -/

theorem State.writeByte_wf {s : State} (addr : Word) (v : Byte) (h : s.mem.wf = true) :
    (s.writeByte addr v).mem.wf = true :=
  Memory.wf_write addr v h

theorem State.push_wf {s : State} (v : Byte) (h : s.mem.wf = true) : (s.push v).mem.wf = true :=
  Memory.wf_write _ v h

theorem State.pushWord_wf {s : State} (w : Word) (h : s.mem.wf = true) : (s.pushWord w).mem.wf = true :=
  State.push_wf _ (State.push_wf _ h)

theorem State.applyReset_wf {s : State} (h : s.mem.wf = true) : s.applyReset.mem.wf = true := h

theorem State.boot_wf {s : State} (program : List Byte) (start : Word) (h : s.mem.wf = true) :
    (s.boot program start).mem.wf = true :=
  Memory.wf_setResetVector start (Memory.wf_loadProgram program start h)

end Sys2Proof.Machine
end

