-- ==== Sys2Proof/Laws/Step.lean ====
section
/-! SUPPORT. What a step can do, said once: it is a no-op, it raises UnknownOpcode, or it runs a decoded instruction. -/
namespace Sys2Proof.Machine

theorem step_halted {s : State} (h : s.halted = true) : step s = .next s := by
  simp [step, h]

/-- What a fetch finds is decided by the byte at PC alone (R100). -/
theorem State.fetchInstr_eq (s : State) :
    s.fetchInstr =
      match lookup (s.readByte s.pc) with
      | none => .unknown (s.readByte s.pc) s.pc (s.setPc (s.pc + 1))
      | some r =>
        match r.assembly with
        | .noOperand i => .decoded i (s.setPc (s.pc + 1))
        | .byteOperand make => .decoded (make (s.readByte (s.pc + 1))) (s.setPc (s.pc + 1 + 1))
        | .wordOperand make =>
          .decoded (make (mkWord (s.readByte (s.pc + 1 + 1)) (s.readByte (s.pc + 1))))
            (s.setPc (s.pc + 1 + 1 + 1)) := rfl

/-- A fetch changes PC only. -/
theorem State.fetchInstr_decoded {s s1 : State} {i : Instr} (h : s.fetchInstr = .decoded i s1) :
    s1 = s.setPc s1.pc := by
  rw [State.fetchInstr_eq] at h
  split at h
  · cases h
  · split at h <;> cases h <;> rfl

theorem State.fetchInstr_unknown {s s1 : State} {op : Byte} {a0 : Word} (h : s.fetchInstr = .unknown op a0 s1) :
    lookup op = none ∧ op = s.readByte s.pc ∧ a0 = s.pc ∧ s1 = s.setPc (s.pc + 1) := by
  rw [State.fetchInstr_eq] at h
  split at h
  · next hl => cases h; exact ⟨hl, rfl, rfl, rfl⟩
  · split at h <;> cases h

/-- What a fetch finds: the instruction whose opcode byte is at PC, and PC moved past its encoding (R25, R100). -/
theorem State.fetchInstr_spec {s s1 : State} {i : Instr} (h : s.fetchInstr = .decoded i s1) :
    i.opcode = s.readByte s.pc ∧ s1 = s.setPc (s.pc + BitVec.ofNat 16 (encode i).length) := by
  rw [State.fetchInstr_eq] at h
  cases hl : lookup (s.readByte s.pc) with
  | none => simp [hl] at h
  | some r =>
    have henc := opcodeTable_encodes r (lookup_mem hl)
    have hop := lookup_opcode hl
    obtain ⟨d, assembly⟩ := r
    have head : ∀ {j : Instr} {op : Byte} {tl : List Byte}, encode j = op :: tl → j.opcode = op :=
      fun hj => (List.cons.inj hj).1
    rw [hl] at h
    cases assembly with
    | noOperand j =>
      cases h
      exact ⟨(head henc).trans hop, by rw [show encode i = [d.opcode] from henc]; rfl⟩
    | byteOperand make =>
      cases h
      refine ⟨(head (henc _)).trans hop, ?_⟩
      rw [henc (s.readByte (s.pc + 1))]
      simp [BitVec.add_assoc]
    | wordOperand make =>
      cases h
      refine ⟨(head (henc _)).trans hop, ?_⟩
      rw [henc (mkWord (s.readByte (s.pc + 1 + 1)) (s.readByte (s.pc + 1)))]
      simp [BitVec.add_assoc]

/-- The decoder on the bytes at PC and the fetch agree: what `decode` reads there is what the fetch finds. -/
theorem State.fetchInstr_of_decode {s : State} {i : Instr} {rest : List Byte}
    (hd : decode s.bytesAtPc = .ok (i, rest)) :
    s.fetchInstr = .decoded i (s.setPc (s.pc + BitVec.ofNat 16 (encode i).length)) := by
  have e1 : s.pc + 1 + 1 = s.pc + 2 := by bv_omega
  have e2 : s.pc + 1 + 1 + 1 = s.pc + 3 := by bv_omega
  simp only [State.bytesAtPc] at hd
  simp only [State.fetchInstr_eq, e1]
  cases hl : lookup (s.readByte s.pc) with
  | none => simp [decode, hl] at hd
  | some r =>
    have hr := opcodeTable_encodes r (lookup_mem hl)
    unfold Row.Encodes at hr
    simp only [decode, hl] at hd
    split at hd <;> simp_all <;> obtain ⟨rfl, rfl⟩ := hd <;> simp [hr, State.setPc]

/-- Inversion of a step: everything that can lead to a next state. -/
theorem step_cases {s t : State} (h : step s = .next t) :
    (s.halted = true ∧ t = s) ∨
    (s.halted = false ∧ lookup (s.readByte s.pc) = none ∧
      t = (s.setPc (s.pc + 1)).raiseUnknownOpcode (s.readByte s.pc) s.pc) ∨
    (s.halted = false ∧ ∃ i s1, s.fetchInstr = .decoded i s1 ∧ exec i s1 = .next t) := by
  unfold step at h
  split at h
  · next hh => cases h; exact .inl ⟨hh, rfl⟩
  · next hh =>
    have hh : s.halted = false := by simpa using hh
    split at h
    · next op a0 s1 hf =>
      obtain ⟨hl, rfl, rfl, rfl⟩ := State.fetchInstr_unknown hf
      cases h
      exact .inr (.inl ⟨hh, hl, rfl⟩)
    · next i s1 hf => exact .inr (.inr ⟨hh, i, s1, hf, h⟩)

/-- A step of a running core whose fetch finds an instruction is that instruction's meaning. -/
theorem step_of_fetch {s s1 : State} {i : Instr} (hh : s.halted = false) (hf : s.fetchInstr = .decoded i s1) :
    step s = exec i s1 := by
  simp [step, hh, hf]

end Sys2Proof.Machine
end

