-- ==== Sys2Proof/Tests/Slice0.lean ====
section
/-! SUPPORT. Tests: ill-formed terms that the checks of WellFormed refuse, every constructor's decoding from a word written out
from the map of 30_encoding.md R86, one-step vectors of 95_test_vectors.md (the row is named above each), and a concrete
state and operands for the hypotheses of every statement of Obligations.lean. -/
namespace Sys2Proof.Tests
open Sys2Proof Sys2Proof.Machine

/-! ## Ill-formed terms are refused -/

/-- The stores have no immediate form, LDX is not indexed by X, only JMP is indirect, and JMP is not indexed (R86). -/
theorem test_wf_operand_form_refused :
    Mnemonic.STA.accepts (.imm 0x05) = false ∧ Mnemonic.LDX.accepts (.zpx 0x10) = false ∧ Mnemonic.JSR.accepts (.ind 0x0600) = false ∧
    Mnemonic.JMP.accepts (.izx 0x20) = false ∧ Mnemonic.BIT.accepts (.imm 0x05) = false ∧ Mnemonic.ASL.accepts (.aby 0x0600) = false ∧
    Mnemonic.BNE.accepts (.abs 0x0600) = false ∧ Mnemonic.INC.accepts .acc = false := by decide

/-- A descriptor of a form its mnemonic lacks, and one of the right form but the wrong length, are refused (R81, R84). -/
theorem test_wf_descriptor_refused :
    ({ mnemonic := .STA, opcode := 0x89, form := .IMM, length := 2, baseCycles := 2 } : Descriptor).wf = false ∧
    ({ mnemonic := .LDA, opcode := 0xA9, form := .IMM, length := 3, baseCycles := 2 } : Descriptor).wf = false := by decide

/-- Every descriptor of the table is well formed, and no two rows share an opcode byte (R80, R86). -/
theorem test_table_wf :
    (opcodeTable.all fun r => r.descriptor.wf) = true ∧ opcodeTable.length = 151 ∧
    opcodeTable.Pairwise (fun r q => r.descriptor.opcode ≠ q.descriptor.opcode) := by decide +kernel

/-- The memory of the reset state is in canonical form. -/
theorem test_reset_memory_wf : State.reset.mem.wf = true := by decide

/-! ## Every constructor's decoding, its bytes written out from R86 with operand 0x9A or, low byte first, 0x9ABC -/

theorem test_decode_adc :
    decode [0x69, 0x9A] = .ok (.adcImm 0x9A, []) ∧
    decode [0x65, 0x9A] = .ok (.adcZp 0x9A, []) ∧
    decode [0x75, 0x9A] = .ok (.adcZpx 0x9A, []) ∧
    decode [0x6D, 0xBC, 0x9A] = .ok (.adcAbs 0x9ABC, []) ∧
    decode [0x7D, 0xBC, 0x9A] = .ok (.adcAbx 0x9ABC, []) ∧
    decode [0x79, 0xBC, 0x9A] = .ok (.adcAby 0x9ABC, []) ∧
    decode [0x61, 0x9A] = .ok (.adcIzx 0x9A, []) ∧
    decode [0x71, 0x9A] = .ok (.adcIzy 0x9A, []) := by decide

theorem test_decode_and :
    decode [0x29, 0x9A] = .ok (.andImm 0x9A, []) ∧
    decode [0x25, 0x9A] = .ok (.andZp 0x9A, []) ∧
    decode [0x35, 0x9A] = .ok (.andZpx 0x9A, []) ∧
    decode [0x2D, 0xBC, 0x9A] = .ok (.andAbs 0x9ABC, []) ∧
    decode [0x3D, 0xBC, 0x9A] = .ok (.andAbx 0x9ABC, []) ∧
    decode [0x39, 0xBC, 0x9A] = .ok (.andAby 0x9ABC, []) ∧
    decode [0x21, 0x9A] = .ok (.andIzx 0x9A, []) ∧
    decode [0x31, 0x9A] = .ok (.andIzy 0x9A, []) := by decide

theorem test_decode_asl :
    decode [0x0A] = .ok (.aslAcc, []) ∧
    decode [0x06, 0x9A] = .ok (.aslZp 0x9A, []) ∧
    decode [0x16, 0x9A] = .ok (.aslZpx 0x9A, []) ∧
    decode [0x0E, 0xBC, 0x9A] = .ok (.aslAbs 0x9ABC, []) ∧
    decode [0x1E, 0xBC, 0x9A] = .ok (.aslAbx 0x9ABC, []) := by decide

theorem test_decode_bcc :
    decode [0x90, 0x9A] = .ok (.bccRel 0x9A, []) := by decide

theorem test_decode_bcs :
    decode [0xB0, 0x9A] = .ok (.bcsRel 0x9A, []) := by decide

theorem test_decode_beq :
    decode [0xF0, 0x9A] = .ok (.beqRel 0x9A, []) := by decide

theorem test_decode_bit :
    decode [0x24, 0x9A] = .ok (.bitZp 0x9A, []) ∧
    decode [0x2C, 0xBC, 0x9A] = .ok (.bitAbs 0x9ABC, []) := by decide

theorem test_decode_bmi :
    decode [0x30, 0x9A] = .ok (.bmiRel 0x9A, []) := by decide

theorem test_decode_bne :
    decode [0xD0, 0x9A] = .ok (.bneRel 0x9A, []) := by decide

theorem test_decode_bpl :
    decode [0x10, 0x9A] = .ok (.bplRel 0x9A, []) := by decide

theorem test_decode_brk :
    decode [0x00] = .ok (.brk, []) := by decide

theorem test_decode_bvc :
    decode [0x50, 0x9A] = .ok (.bvcRel 0x9A, []) := by decide

theorem test_decode_bvs :
    decode [0x70, 0x9A] = .ok (.bvsRel 0x9A, []) := by decide

theorem test_decode_clc :
    decode [0x18] = .ok (.clc, []) := by decide

theorem test_decode_cld :
    decode [0xD8] = .ok (.cld, []) := by decide

theorem test_decode_cli :
    decode [0x58] = .ok (.cli, []) := by decide

theorem test_decode_clv :
    decode [0xB8] = .ok (.clv, []) := by decide

theorem test_decode_cmp :
    decode [0xC9, 0x9A] = .ok (.cmpImm 0x9A, []) ∧
    decode [0xC5, 0x9A] = .ok (.cmpZp 0x9A, []) ∧
    decode [0xD5, 0x9A] = .ok (.cmpZpx 0x9A, []) ∧
    decode [0xCD, 0xBC, 0x9A] = .ok (.cmpAbs 0x9ABC, []) ∧
    decode [0xDD, 0xBC, 0x9A] = .ok (.cmpAbx 0x9ABC, []) ∧
    decode [0xD9, 0xBC, 0x9A] = .ok (.cmpAby 0x9ABC, []) ∧
    decode [0xC1, 0x9A] = .ok (.cmpIzx 0x9A, []) ∧
    decode [0xD1, 0x9A] = .ok (.cmpIzy 0x9A, []) := by decide

theorem test_decode_cpx :
    decode [0xE0, 0x9A] = .ok (.cpxImm 0x9A, []) ∧
    decode [0xE4, 0x9A] = .ok (.cpxZp 0x9A, []) ∧
    decode [0xEC, 0xBC, 0x9A] = .ok (.cpxAbs 0x9ABC, []) := by decide

theorem test_decode_cpy :
    decode [0xC0, 0x9A] = .ok (.cpyImm 0x9A, []) ∧
    decode [0xC4, 0x9A] = .ok (.cpyZp 0x9A, []) ∧
    decode [0xCC, 0xBC, 0x9A] = .ok (.cpyAbs 0x9ABC, []) := by decide

theorem test_decode_dec :
    decode [0xC6, 0x9A] = .ok (.decZp 0x9A, []) ∧
    decode [0xD6, 0x9A] = .ok (.decZpx 0x9A, []) ∧
    decode [0xCE, 0xBC, 0x9A] = .ok (.decAbs 0x9ABC, []) ∧
    decode [0xDE, 0xBC, 0x9A] = .ok (.decAbx 0x9ABC, []) := by decide

theorem test_decode_dex :
    decode [0xCA] = .ok (.dex, []) := by decide

theorem test_decode_dey :
    decode [0x88] = .ok (.dey, []) := by decide

theorem test_decode_eor :
    decode [0x49, 0x9A] = .ok (.eorImm 0x9A, []) ∧
    decode [0x45, 0x9A] = .ok (.eorZp 0x9A, []) ∧
    decode [0x55, 0x9A] = .ok (.eorZpx 0x9A, []) ∧
    decode [0x4D, 0xBC, 0x9A] = .ok (.eorAbs 0x9ABC, []) ∧
    decode [0x5D, 0xBC, 0x9A] = .ok (.eorAbx 0x9ABC, []) ∧
    decode [0x59, 0xBC, 0x9A] = .ok (.eorAby 0x9ABC, []) ∧
    decode [0x41, 0x9A] = .ok (.eorIzx 0x9A, []) ∧
    decode [0x51, 0x9A] = .ok (.eorIzy 0x9A, []) := by decide

theorem test_decode_inc :
    decode [0xE6, 0x9A] = .ok (.incZp 0x9A, []) ∧
    decode [0xF6, 0x9A] = .ok (.incZpx 0x9A, []) ∧
    decode [0xEE, 0xBC, 0x9A] = .ok (.incAbs 0x9ABC, []) ∧
    decode [0xFE, 0xBC, 0x9A] = .ok (.incAbx 0x9ABC, []) := by decide

theorem test_decode_inx :
    decode [0xE8] = .ok (.inx, []) := by decide

theorem test_decode_iny :
    decode [0xC8] = .ok (.iny, []) := by decide

theorem test_decode_jmp :
    decode [0x4C, 0xBC, 0x9A] = .ok (.jmpAbs 0x9ABC, []) ∧
    decode [0x6C, 0xBC, 0x9A] = .ok (.jmpInd 0x9ABC, []) := by decide

theorem test_decode_jsr :
    decode [0x20, 0xBC, 0x9A] = .ok (.jsrAbs 0x9ABC, []) := by decide

theorem test_decode_lda :
    decode [0xA9, 0x9A] = .ok (.ldaImm 0x9A, []) ∧
    decode [0xA5, 0x9A] = .ok (.ldaZp 0x9A, []) ∧
    decode [0xB5, 0x9A] = .ok (.ldaZpx 0x9A, []) ∧
    decode [0xAD, 0xBC, 0x9A] = .ok (.ldaAbs 0x9ABC, []) ∧
    decode [0xBD, 0xBC, 0x9A] = .ok (.ldaAbx 0x9ABC, []) ∧
    decode [0xB9, 0xBC, 0x9A] = .ok (.ldaAby 0x9ABC, []) ∧
    decode [0xA1, 0x9A] = .ok (.ldaIzx 0x9A, []) ∧
    decode [0xB1, 0x9A] = .ok (.ldaIzy 0x9A, []) := by decide

theorem test_decode_ldx :
    decode [0xA2, 0x9A] = .ok (.ldxImm 0x9A, []) ∧
    decode [0xA6, 0x9A] = .ok (.ldxZp 0x9A, []) ∧
    decode [0xB6, 0x9A] = .ok (.ldxZpy 0x9A, []) ∧
    decode [0xAE, 0xBC, 0x9A] = .ok (.ldxAbs 0x9ABC, []) ∧
    decode [0xBE, 0xBC, 0x9A] = .ok (.ldxAby 0x9ABC, []) := by decide

theorem test_decode_ldy :
    decode [0xA0, 0x9A] = .ok (.ldyImm 0x9A, []) ∧
    decode [0xA4, 0x9A] = .ok (.ldyZp 0x9A, []) ∧
    decode [0xB4, 0x9A] = .ok (.ldyZpx 0x9A, []) ∧
    decode [0xAC, 0xBC, 0x9A] = .ok (.ldyAbs 0x9ABC, []) ∧
    decode [0xBC, 0xBC, 0x9A] = .ok (.ldyAbx 0x9ABC, []) := by decide

theorem test_decode_lsr :
    decode [0x4A] = .ok (.lsrAcc, []) ∧
    decode [0x46, 0x9A] = .ok (.lsrZp 0x9A, []) ∧
    decode [0x56, 0x9A] = .ok (.lsrZpx 0x9A, []) ∧
    decode [0x4E, 0xBC, 0x9A] = .ok (.lsrAbs 0x9ABC, []) ∧
    decode [0x5E, 0xBC, 0x9A] = .ok (.lsrAbx 0x9ABC, []) := by decide

theorem test_decode_nop :
    decode [0xEA] = .ok (.nop, []) := by decide

theorem test_decode_ora :
    decode [0x09, 0x9A] = .ok (.oraImm 0x9A, []) ∧
    decode [0x05, 0x9A] = .ok (.oraZp 0x9A, []) ∧
    decode [0x15, 0x9A] = .ok (.oraZpx 0x9A, []) ∧
    decode [0x0D, 0xBC, 0x9A] = .ok (.oraAbs 0x9ABC, []) ∧
    decode [0x1D, 0xBC, 0x9A] = .ok (.oraAbx 0x9ABC, []) ∧
    decode [0x19, 0xBC, 0x9A] = .ok (.oraAby 0x9ABC, []) ∧
    decode [0x01, 0x9A] = .ok (.oraIzx 0x9A, []) ∧
    decode [0x11, 0x9A] = .ok (.oraIzy 0x9A, []) := by decide

theorem test_decode_pha :
    decode [0x48] = .ok (.pha, []) := by decide

theorem test_decode_php :
    decode [0x08] = .ok (.php, []) := by decide

theorem test_decode_pla :
    decode [0x68] = .ok (.pla, []) := by decide

theorem test_decode_plp :
    decode [0x28] = .ok (.plp, []) := by decide

theorem test_decode_rol :
    decode [0x2A] = .ok (.rolAcc, []) ∧
    decode [0x26, 0x9A] = .ok (.rolZp 0x9A, []) ∧
    decode [0x36, 0x9A] = .ok (.rolZpx 0x9A, []) ∧
    decode [0x2E, 0xBC, 0x9A] = .ok (.rolAbs 0x9ABC, []) ∧
    decode [0x3E, 0xBC, 0x9A] = .ok (.rolAbx 0x9ABC, []) := by decide

theorem test_decode_ror :
    decode [0x6A] = .ok (.rorAcc, []) ∧
    decode [0x66, 0x9A] = .ok (.rorZp 0x9A, []) ∧
    decode [0x76, 0x9A] = .ok (.rorZpx 0x9A, []) ∧
    decode [0x6E, 0xBC, 0x9A] = .ok (.rorAbs 0x9ABC, []) ∧
    decode [0x7E, 0xBC, 0x9A] = .ok (.rorAbx 0x9ABC, []) := by decide

theorem test_decode_rti :
    decode [0x40] = .ok (.rti, []) := by decide

theorem test_decode_rts :
    decode [0x60] = .ok (.rts, []) := by decide

theorem test_decode_sbc :
    decode [0xE9, 0x9A] = .ok (.sbcImm 0x9A, []) ∧
    decode [0xE5, 0x9A] = .ok (.sbcZp 0x9A, []) ∧
    decode [0xF5, 0x9A] = .ok (.sbcZpx 0x9A, []) ∧
    decode [0xED, 0xBC, 0x9A] = .ok (.sbcAbs 0x9ABC, []) ∧
    decode [0xFD, 0xBC, 0x9A] = .ok (.sbcAbx 0x9ABC, []) ∧
    decode [0xF9, 0xBC, 0x9A] = .ok (.sbcAby 0x9ABC, []) ∧
    decode [0xE1, 0x9A] = .ok (.sbcIzx 0x9A, []) ∧
    decode [0xF1, 0x9A] = .ok (.sbcIzy 0x9A, []) := by decide

theorem test_decode_sec :
    decode [0x38] = .ok (.sec, []) := by decide

theorem test_decode_sed :
    decode [0xF8] = .ok (.sed, []) := by decide

theorem test_decode_sei :
    decode [0x78] = .ok (.sei, []) := by decide

theorem test_decode_sta :
    decode [0x85, 0x9A] = .ok (.staZp 0x9A, []) ∧
    decode [0x95, 0x9A] = .ok (.staZpx 0x9A, []) ∧
    decode [0x8D, 0xBC, 0x9A] = .ok (.staAbs 0x9ABC, []) ∧
    decode [0x9D, 0xBC, 0x9A] = .ok (.staAbx 0x9ABC, []) ∧
    decode [0x99, 0xBC, 0x9A] = .ok (.staAby 0x9ABC, []) ∧
    decode [0x81, 0x9A] = .ok (.staIzx 0x9A, []) ∧
    decode [0x91, 0x9A] = .ok (.staIzy 0x9A, []) := by decide

theorem test_decode_stx :
    decode [0x86, 0x9A] = .ok (.stxZp 0x9A, []) ∧
    decode [0x96, 0x9A] = .ok (.stxZpy 0x9A, []) ∧
    decode [0x8E, 0xBC, 0x9A] = .ok (.stxAbs 0x9ABC, []) := by decide

theorem test_decode_sty :
    decode [0x84, 0x9A] = .ok (.styZp 0x9A, []) ∧
    decode [0x94, 0x9A] = .ok (.styZpx 0x9A, []) ∧
    decode [0x8C, 0xBC, 0x9A] = .ok (.styAbs 0x9ABC, []) := by decide

theorem test_decode_tax :
    decode [0xAA] = .ok (.tax, []) := by decide

theorem test_decode_tay :
    decode [0xA8] = .ok (.tay, []) := by decide

theorem test_decode_tsx :
    decode [0xBA] = .ok (.tsx, []) := by decide

theorem test_decode_txa :
    decode [0x8A] = .ok (.txa, []) := by decide

theorem test_decode_txs :
    decode [0x9A] = .ok (.txs, []) := by decide

theorem test_decode_tya :
    decode [0x98] = .ok (.tya, []) := by decide

/-! ## One step from a small state -/

/-- The state after reset with the reset vector at 0x0600 (95_test_vectors.md, Conventions), the bytes at 0x0600 and the
listed cells. The vector's own bytes play no part in these steps and are left out. -/
def start (bytes : List Byte) (cells : List (Word × Byte)) : State :=
  { State.reset with
    pc := 0x0600
    mem := cells.foldl (fun m c => m.write c.1 c.2) (Memory.loadProgram [] bytes 0x0600) }

/-- One step ends in a next state that has the property. -/
def after (s : State) (check : State → Bool) : Bool :=
  match step s with
  | .next t => check t
  | .fault _ => false
  | .refused _ => false

/-- V-STK NOP. -/
theorem test_nop :
    after { start [0xEA] [] with a := 0x01, p := { Flags.cleared with c := true } } fun t =>
      t.a = 0x01 ∧ t.p = { Flags.cleared with c := true } ∧ t.pc = 0x0601 := by decide

/-- V-LST LDA #$80. -/
theorem test_lda_imm :
    after { start [0xA9, 0x80] [] with p := { Flags.cleared with v := true, c := true } } fun t =>
      t.a = 0x80 ∧ t.p = { Flags.cleared with n := true, v := true, c := true } ∧ t.pc = 0x0602 := by decide

/-- V-ADDR ZPX. -/
theorem test_lda_zpx_wraps :
    after { start [0xB5, 0xF0] [(0x0010, 0x77), (0x0110, 0x99)] with x := 0x20 } fun t =>
      t.a = 0x77 ∧ t.p = Flags.cleared ∧ t.pc = 0x0602 := by decide

/-- V-ADDR ZPY. -/
theorem test_ldx_zpy_wraps :
    after { start [0xB6, 0xFF] [(0x0001, 0x33)] with y := 0x02 } fun t =>
      t.x = 0x33 ∧ t.pc = 0x0602 := by decide

/-- V-ADDR ABX. -/
theorem test_lda_abx_wraps :
    after { start [0xBD, 0xF0, 0xFF] [(0x0010, 0x44)] with x := 0x20 } fun t =>
      t.a = 0x44 ∧ t.pc = 0x0603 := by decide

/-- V-ADDR ABY. -/
theorem test_lda_aby :
    after { start [0xB9, 0xFF, 0x12] [(0x1300, 0x66)] with y := 0x01 } fun t =>
      t.a = 0x66 ∧ t.pc = 0x0603 := by decide

/-- V-ADDR IZX, base+X wraps. -/
theorem test_lda_izx_wraps :
    after { start [0xA1, 0xFE] [(0x0001, 0x40), (0x0002, 0x03), (0x0340, 0x11)] with x := 0x03 } fun t =>
      t.a = 0x11 ∧ t.pc = 0x0602 := by decide

/-- V-ADDR IZY. -/
theorem test_lda_izy :
    after { start [0xB1, 0x20] [(0x0020, 0xF8), (0x0021, 0x07), (0x0808, 0x3C)] with y := 0x10 } fun t =>
      t.a = 0x3C ∧ t.pc = 0x0602 := by decide

/-- V-ADDR IZY, pointer at 0xFF, ZP_PTR_WRAP = false. -/
theorem test_lda_izy_pointer_at_FF :
    after (start [0xB1, 0xFF] [(0x00FF, 0x00), (0x0100, 0x04), (0x0000, 0x05), (0x0400, 0xAA), (0x0500, 0xBB)]) fun t =>
      t.a = 0xAA := by decide

/-- V-ADDR IZY, pointer at 0xFF, ZP_PTR_WRAP = true. -/
theorem test_lda_izy_pointer_at_FF_wrapped :
    after { start [0xB1, 0xFF] [(0x00FF, 0x00), (0x0100, 0x04), (0x0000, 0x05), (0x0400, 0xAA), (0x0500, 0xBB)] with cfg := { linkage := .halting, zpPtrWrap := true } } fun t =>
      t.a = 0xBB := by decide

/-- V-LST LDX $0300,Y. -/
theorem test_ldx_aby :
    after { start [0xBE, 0x00, 0x03] [(0x0304, 0x9C)] with y := 0x04 } fun t =>
      t.x = 0x9C ∧ t.p = { Flags.cleared with n := true } := by decide

/-- V-LST LDY $0300,X. -/
theorem test_ldy_abx :
    after { start [0xBC, 0x00, 0x03] [(0x0301, 0x7F)] with x := 0x01 } fun t =>
      t.y = 0x7F ∧ t.p = Flags.cleared := by decide

/-- V-LST STA ($22),Y. -/
theorem test_sta_izy :
    after { start [0x91, 0x22] [(0x0022, 0x10), (0x0023, 0x07)] with a := 0x11, y := 0x03 } fun t =>
      t.a = 0x11 ∧ t.pc = 0x0602 ∧ t.readByte 0x0713 = 0x11 := by decide

/-- V-LST STA $0601, into its own operand. -/
theorem test_sta_into_own_operand :
    after { start [0x8D, 0x01, 0x06] [] with a := 0xEA } fun t =>
      t.a = 0xEA ∧ t.pc = 0x0603 ∧ t.readByte 0x0601 = 0xEA ∧ t.readByte 0x06EA = 0x00 := by decide

/-- V-LST STX $FF,Y. -/
theorem test_stx_zpy_wraps :
    after { start [0x96, 0xFF] [] with x := 0xAB, y := 0x02 } fun t =>
      t.readByte 0x0001 = 0xAB := by decide

/-- V-LST STY $10,X. -/
theorem test_sty_zpx :
    after { start [0x94, 0x10] [] with y := 0xCD, x := 0x01 } fun t =>
      t.readByte 0x0011 = 0xCD := by decide

/-- V-LST TAX. -/
theorem test_tax :
    after { start [0xAA] [] with a := 0x80 } fun t =>
      t.x = 0x80 ∧ t.p = { Flags.cleared with n := true } := by decide

/-- V-LST TAY. -/
theorem test_tay :
    after { start [0xA8] [] with a := 0x00, y := 0x09 } fun t =>
      t.y = 0x00 ∧ t.p = { Flags.cleared with z := true } := by decide

/-- V-LST TXA. -/
theorem test_txa :
    after { start [0x8A] [] with x := 0x7F } fun t =>
      t.a = 0x7F ∧ t.p = Flags.cleared := by decide

/-- V-LST TYA. -/
theorem test_tya :
    after { start [0x98] [] with y := 0xFF } fun t =>
      t.a = 0xFF ∧ t.p = { Flags.cleared with n := true } := by decide

/-- V-LST TSX. -/
theorem test_tsx :
    after (start [0xBA] []) fun t =>
      t.x = 0xFD ∧ t.sp = 0xFD ∧ t.p = { Flags.cleared with n := true } := by decide

/-- V-LST TXS. -/
theorem test_txs :
    after { start [0x9A] [] with x := 0x00, p := { Flags.cleared with n := true } } fun t =>
      t.sp = 0x00 ∧ t.p = { Flags.cleared with n := true } := by decide

/-- V-ADC row 2, the source's scenario 2. -/
theorem test_adc_carry :
    after { start [0x69, 0x01] [] with a := 0xFF } fun t =>
      t.a = 0x00 ∧ t.p = { Flags.cleared with z := true, c := true } := by decide

/-- V-ADC: 0x09 + 0x01 with D = 1. -/
theorem test_adc_overflow_decimal_ignored :
    after { start [0x69, 0x01] [] with a := 0x09, p := { Flags.cleared with d := true } } fun t =>
      t.a = 0x0A ∧ t.p = { Flags.cleared with d := true } := by decide

/-- V-SBC row 4. -/
theorem test_sbc_overflow :
    after { start [0xE9, 0xB0] [] with a := 0x50, p := { Flags.cleared with c := true } } fun t =>
      t.a = 0xA0 ∧ t.p = { Flags.cleared with n := true, v := true } := by decide

/-- V-SBC row 2. -/
theorem test_sbc_borrow_in :
    after { start [0xE9, 0x03] [] with a := 0x05 } fun t =>
      t.a = 0x01 ∧ t.p = { Flags.cleared with c := true } := by decide

/-- V-LOGIC AND #$80. -/
theorem test_and :
    after { start [0x29, 0x80] [] with a := 0xFF, p := { Flags.cleared with v := true, c := true } } fun t =>
      t.a = 0x80 ∧ t.p = { Flags.cleared with n := true, v := true, c := true } := by decide

/-- V-LOGIC ORA #$80. -/
theorem test_ora :
    after { start [0x09, 0x80] [] with a := 0x0F, p := { Flags.cleared with v := true, c := true } } fun t =>
      t.a = 0x8F ∧ t.p = { Flags.cleared with n := true, v := true, c := true } := by decide

/-- V-LOGIC EOR #$5A. -/
theorem test_eor :
    after { start [0x49, 0x5A] [] with a := 0x5A, p := { Flags.cleared with v := true, c := true } } fun t =>
      t.a = 0x00 ∧ t.p = { Flags.cleared with v := true, z := true, c := true } := by decide

/-- V-LOGIC BIT row 2. -/
theorem test_bit_zp :
    after { start [0x24, 0x10] [(0x0010, 0xC0)] with a := 0x01, p := { Flags.cleared with c := true } } fun t =>
      t.a = 0x01 ∧ t.p = { Flags.cleared with n := true, v := true, z := true, c := true } := by decide

/-- V-LOGIC BIT row 5. -/
theorem test_bit_zp_clears_v :
    after { start [0x24, 0x10] [(0x0010, 0x80)] with a := 0x80, p := { Flags.cleared with c := true } } fun t =>
      t.a = 0x80 ∧ t.p = { Flags.cleared with n := true, c := true } := by decide

/-- V-CMP row 3. -/
theorem test_cmp_equal :
    after { start [0xC9, 0x42] [] with a := 0x42, p := { Flags.cleared with v := true } } fun t =>
      t.a = 0x42 ∧ t.p = { Flags.cleared with v := true, z := true, c := true } := by decide

/-- V-CMP row 8. -/
theorem test_cmp_not_signed :
    after { start [0xC9, 0xFF] [] with a := 0x00, p := { Flags.cleared with v := true } } fun t =>
      t.a = 0x00 ∧ t.p = { Flags.cleared with v := true } := by decide

/-- V-CMP CPX $10. -/
theorem test_cpx_zp :
    after { start [0xE4, 0x10] [(0x0010, 0x20)] with x := 0x10 } fun t =>
      t.x = 0x10 ∧ t.p = { Flags.cleared with n := true } := by decide

/-- V-CMP CPY $0300. -/
theorem test_cpy_abs :
    after { start [0xCC, 0x00, 0x03] [(0x0300, 0x10)] with y := 0x90 } fun t =>
      t.y = 0x90 ∧ t.p = { Flags.cleared with n := true, c := true } := by decide

/-- V-INCDEC INC row 3. -/
theorem test_inc_zp_wraps :
    after { start [0xE6, 0x10] [(0x0010, 0xFF)] with p := { Flags.cleared with v := true, c := true } } fun t =>
      t.p = { Flags.cleared with v := true, z := true, c := true } ∧ t.readByte 0x0010 = 0x00 := by decide

/-- V-INCDEC INC $02FF,X. -/
theorem test_inc_abx :
    after { start [0xFE, 0xFF, 0x02] [(0x0300, 0x41)] with x := 0x01 } fun t =>
      t.p = Flags.cleared ∧ t.readByte 0x0300 = 0x42 := by decide

/-- V-INCDEC DEC row 1. -/
theorem test_dec_abs_wraps :
    after (start [0xCE, 0x00, 0x03] [(0x0300, 0x00)]) fun t =>
      t.p = { Flags.cleared with n := true } ∧ t.readByte 0x0300 = 0xFF := by decide

/-- V-INCDEC INX. -/
theorem test_inx_wraps :
    after { start [0xE8] [] with x := 0xFF, p := { Flags.cleared with c := true } } fun t =>
      t.x = 0x00 ∧ t.p = { Flags.cleared with z := true, c := true } := by decide

/-- V-INCDEC INY. -/
theorem test_iny :
    after { start [0xC8] [] with y := 0x7F, p := { Flags.cleared with c := true } } fun t =>
      t.y = 0x80 ∧ t.p = { Flags.cleared with n := true, c := true } := by decide

/-- V-INCDEC DEX. -/
theorem test_dex_wraps :
    after { start [0xCA] [] with x := 0x00, p := { Flags.cleared with c := true } } fun t =>
      t.x = 0xFF ∧ t.p = { Flags.cleared with n := true, c := true } := by decide

/-- V-INCDEC DEY. -/
theorem test_dey :
    after { start [0x88] [] with y := 0x01, p := { Flags.cleared with c := true } } fun t =>
      t.y = 0x00 ∧ t.p = { Flags.cleared with z := true, c := true } := by decide

/-- V-SHIFT ASL A row 2. -/
theorem test_asl_acc :
    after { start [0x0A] [] with a := 0x80, p := { Flags.cleared with v := true, c := true } } fun t =>
      t.a = 0x00 ∧ t.p = { Flags.cleared with v := true, z := true, c := true } := by decide

/-- V-SHIFT ASL $10. -/
theorem test_asl_zp :
    after { start [0x06, 0x10] [(0x0010, 0xC0)] with a := 0x55 } fun t =>
      t.a = 0x55 ∧ t.p = { Flags.cleared with n := true, c := true } ∧ t.readByte 0x0010 = 0x80 := by decide

/-- V-SHIFT LSR A row 3. -/
theorem test_lsr_acc :
    after { start [0x4A] [] with a := 0x80, p := { Flags.cleared with v := true, c := true } } fun t =>
      t.a = 0x40 ∧ t.p = { Flags.cleared with v := true } := by decide

/-- V-SHIFT LSR $0300,X. -/
theorem test_lsr_abx :
    after { start [0x5E, 0x00, 0x03] [(0x0302, 0x01)] with x := 0x02, a := 0x80 } fun t =>
      t.a = 0x80 ∧ t.p = { Flags.cleared with z := true, c := true } ∧ t.readByte 0x0302 = 0x00 := by decide

/-- V-SHIFT ROL A row 3. -/
theorem test_rol_acc :
    after { start [0x2A] [] with a := 0x80, p := { Flags.cleared with v := true, c := true } } fun t =>
      t.a = 0x01 ∧ t.p = { Flags.cleared with v := true, c := true } := by decide

/-- V-SHIFT ROL $F0,X. -/
theorem test_rol_zpx :
    after { start [0x36, 0xF0] [(0x0010, 0x7F)] with x := 0x20, p := { Flags.cleared with c := true } } fun t =>
      t.p = { Flags.cleared with n := true } ∧ t.readByte 0x0010 = 0xFF := by decide

/-- V-SHIFT ROR A row 3. -/
theorem test_ror_acc :
    after { start [0x6A] [] with a := 0x01, p := { Flags.cleared with v := true, c := true } } fun t =>
      t.a = 0x80 ∧ t.p = { Flags.cleared with n := true, v := true, c := true } := by decide

/-- V-SHIFT ROR $0300. -/
theorem test_ror_abs :
    after { start [0x6E, 0x00, 0x03] [(0x0300, 0x00)] with p := { Flags.cleared with c := true } } fun t =>
      t.p = { Flags.cleared with n := true } ∧ t.readByte 0x0300 = 0x80 := by decide

/-- V-BR BCC *+7, taken. -/
theorem test_bcc_taken :
    after (start [0x90, 0x05] []) fun t =>
      t.p = Flags.cleared ∧ t.pc = 0x0607 := by decide

/-- V-BR BCC *+7, not taken. -/
theorem test_bcc_not_taken :
    after { start [0x90, 0x05] [] with p := { Flags.cleared with c := true } } fun t =>
      t.p = { Flags.cleared with c := true } ∧ t.pc = 0x0602 := by decide

/-- V-BR BCS *+7, taken. -/
theorem test_bcs_taken :
    after { start [0xB0, 0x05] [] with p := { Flags.cleared with c := true } } fun t =>
      t.p = { Flags.cleared with c := true } ∧ t.pc = 0x0607 := by decide

/-- V-BR BCS *+7, not taken. -/
theorem test_bcs_not_taken :
    after (start [0xB0, 0x05] []) fun t =>
      t.p = Flags.cleared ∧ t.pc = 0x0602 := by decide

/-- V-BR BEQ *+7, taken. -/
theorem test_beq_taken :
    after { start [0xF0, 0x05] [] with p := { Flags.cleared with z := true } } fun t =>
      t.p = { Flags.cleared with z := true } ∧ t.pc = 0x0607 := by decide

/-- V-BR BEQ *+7, not taken. -/
theorem test_beq_not_taken :
    after (start [0xF0, 0x05] []) fun t =>
      t.p = Flags.cleared ∧ t.pc = 0x0602 := by decide

/-- V-BR BNE *+7, taken. -/
theorem test_bne_taken :
    after (start [0xD0, 0x05] []) fun t =>
      t.p = Flags.cleared ∧ t.pc = 0x0607 := by decide

/-- V-BR BNE *+7, not taken. -/
theorem test_bne_not_taken :
    after { start [0xD0, 0x05] [] with p := { Flags.cleared with z := true } } fun t =>
      t.p = { Flags.cleared with z := true } ∧ t.pc = 0x0602 := by decide

/-- V-BR BMI *+7, taken. -/
theorem test_bmi_taken :
    after { start [0x30, 0x05] [] with p := { Flags.cleared with n := true } } fun t =>
      t.p = { Flags.cleared with n := true } ∧ t.pc = 0x0607 := by decide

/-- V-BR BMI *+7, not taken. -/
theorem test_bmi_not_taken :
    after (start [0x30, 0x05] []) fun t =>
      t.p = Flags.cleared ∧ t.pc = 0x0602 := by decide

/-- V-BR BPL *+7, taken. -/
theorem test_bpl_taken :
    after (start [0x10, 0x05] []) fun t =>
      t.p = Flags.cleared ∧ t.pc = 0x0607 := by decide

/-- V-BR BPL *+7, not taken. -/
theorem test_bpl_not_taken :
    after { start [0x10, 0x05] [] with p := { Flags.cleared with n := true } } fun t =>
      t.p = { Flags.cleared with n := true } ∧ t.pc = 0x0602 := by decide

/-- V-BR BVC *+7, taken. -/
theorem test_bvc_taken :
    after (start [0x50, 0x05] []) fun t =>
      t.p = Flags.cleared ∧ t.pc = 0x0607 := by decide

/-- V-BR BVC *+7, not taken. -/
theorem test_bvc_not_taken :
    after { start [0x50, 0x05] [] with p := { Flags.cleared with v := true } } fun t =>
      t.p = { Flags.cleared with v := true } ∧ t.pc = 0x0602 := by decide

/-- V-BR BVS *+7, taken. -/
theorem test_bvs_taken :
    after { start [0x70, 0x05] [] with p := { Flags.cleared with v := true } } fun t =>
      t.p = { Flags.cleared with v := true } ∧ t.pc = 0x0607 := by decide

/-- V-BR BVS *+7, not taken. -/
theorem test_bvs_not_taken :
    after (start [0x70, 0x05] []) fun t =>
      t.p = Flags.cleared ∧ t.pc = 0x0602 := by decide

/-- V-JMP JMP $1234. -/
theorem test_jmp_abs :
    after (start [0x4C, 0x34, 0x12] []) fun t =>
      t.sp = 0xFD ∧ t.pc = 0x1234 := by decide

/-- V-ADDR IND. -/
theorem test_jmp_ind_no_page_wrap :
    after (start [0x6C, 0xFF, 0x12] [(0x12FF, 0x78), (0x1300, 0x56), (0x1200, 0x99)]) fun t =>
      t.pc = 0x5678 := by decide

/-- V-JMP JSR, LINKAGE = halting. -/
theorem test_jsr_halting :
    after (start [0x20, 0x10, 0x06] []) fun t =>
      t.sp = 0xFD ∧ t.pc = 0x0610 ∧ t.readByte 0x01FD = 0x00 ∧ t.readByte 0x01FC = 0x00 := by decide

/-- V-JMP JSR, LINKAGE = hardware, SP = 0x00. -/
theorem test_jsr_hardware_stack_wraps :
    after { start [0x20, 0x10, 0x06] [] with sp := 0x00, cfg := { linkage := .hardware, zpPtrWrap := false } } fun t =>
      t.sp = 0xFE ∧ t.pc = 0x0610 ∧ t.readByte 0x0100 = 0x06 ∧ t.readByte 0x01FF = 0x02 := by decide

/-- V-JMP RTS, LINKAGE = halting. -/
theorem test_rts_halting :
    after { start [0x60] [] with a := 0x08 } fun t =>
      t.a = 0x08 ∧ t.sp = 0xFD ∧ t.p = Flags.cleared ∧ t.pc = 0x0601 ∧ t.halted = true ∧ t.fault = none := by decide

/-- V-JMP RTS, LINKAGE = hardware, at 0x0600. -/
theorem test_rts_hardware :
    after { start [0x60] [(0x01FC, 0x02), (0x01FD, 0x06)] with sp := 0xFB, cfg := { linkage := .hardware, zpPtrWrap := false } } fun t =>
      t.sp = 0xFD ∧ t.pc = 0x0603 ∧ t.halted = false := by decide

/-- V-STK PHA, SP = 0x00. -/
theorem test_pha_stack_wraps :
    after { start [0x48] [] with a := 0x42, sp := 0x00 } fun t =>
      t.sp = 0xFF ∧ t.readByte 0x0100 = 0x42 := by decide

/-- V-STK PHP, N = 1 C = 1. -/
theorem test_php :
    after { start [0x08] [] with p := { Flags.cleared with n := true, c := true } } fun t =>
      t.sp = 0xFC ∧ t.p = { Flags.cleared with n := true, c := true } ∧ t.readByte 0x01FD = 0xB1 := by decide

/-- V-STK PLA, SP = 0xFF. -/
theorem test_pla_stack_wraps :
    after { start [0x68] [(0x0100, 0x99)] with sp := 0xFF } fun t =>
      t.a = 0x99 ∧ t.sp = 0x00 ∧ t.p = { Flags.cleared with n := true } := by decide

/-- V-STK PLP, 0xFF. -/
theorem test_plp :
    after { start [0x28] [(0x01FD, 0xFF)] with sp := 0xFC } fun t =>
      t.sp = 0xFD ∧ t.p = { Flags.cleared with n := true, v := true, d := true, i := true, z := true, c := true } ∧ t.p.toByte = 0xEF := by decide

/-- V-STK CLC. -/
theorem test_clc :
    after { start [0x18] [] with p := { Flags.cleared with c := true } } fun t =>
      t.p = Flags.cleared ∧ t.pc = 0x0601 := by decide

/-- V-STK SEC. -/
theorem test_sec :
    after (start [0x38] []) fun t =>
      t.p = { Flags.cleared with c := true } ∧ t.pc = 0x0601 := by decide

/-- V-STK CLD. -/
theorem test_cld :
    after { start [0xD8] [] with p := { Flags.cleared with d := true } } fun t =>
      t.p = Flags.cleared ∧ t.pc = 0x0601 := by decide

/-- V-STK SED. -/
theorem test_sed :
    after (start [0xF8] []) fun t =>
      t.p = { Flags.cleared with d := true } ∧ t.pc = 0x0601 := by decide

/-- V-STK CLI. -/
theorem test_cli :
    after { start [0x58] [] with p := { Flags.cleared with i := true } } fun t =>
      t.p = Flags.cleared ∧ t.pc = 0x0601 := by decide

/-- V-STK SEI. -/
theorem test_sei :
    after (start [0x78] []) fun t =>
      t.p = { Flags.cleared with i := true } ∧ t.pc = 0x0601 := by decide

/-- V-STK CLV. -/
theorem test_clv :
    after { start [0xB8] [] with p := { Flags.cleared with v := true } } fun t =>
      t.p = Flags.cleared ∧ t.pc = 0x0601 := by decide

/-- V-STK BRK. -/
theorem test_brk :
    after { start [0x00] [] with a := 0x08 } fun t =>
      t.a = 0x08 ∧ t.sp = 0xFD ∧ t.p = { Flags.cleared with b := true } ∧ t.pc = 0x0601 ∧ t.halted = true ∧ t.fault = none ∧ t.p.toByte = 0x30 := by decide

/-- V-STK RTI row 1. -/
theorem test_rti :
    after { start [0x40] [(0x01FB, 0x81), (0x01FC, 0x34), (0x01FD, 0x12)] with sp := 0xFA } fun t =>
      t.sp = 0xFD ∧ t.p = { Flags.cleared with n := true, c := true } ∧ t.pc = 0x1234 := by decide

/-- V-STK RTI row 2. -/
theorem test_rti_stack_wraps :
    after (start [0x40] [(0x01FE, 0xFF), (0x01FF, 0x00), (0x0100, 0x08)]) fun t =>
      t.sp = 0x00 ∧ t.p = { Flags.cleared with n := true, v := true, d := true, i := true, z := true, c := true } ∧ t.pc = 0x0800 := by decide

/-- V-EXC row 1. -/
theorem test_unknown_opcode :
    after { start [0x02, 0x11, 0x22] [] with a := 0x07, p := { Flags.cleared with c := true } } fun t =>
      t.a = 0x07 ∧ t.sp = 0xFD ∧ t.p = { Flags.cleared with c := true } ∧ t.pc = 0x0601 ∧ t.halted = true ∧
      t.fault = some { kind := .unknownOpcode, byte := 0x02, address := 0x0600 } := by decide

/-! ## Host interface -/

/-- V-RESET row 2: reset of a halted core clears the record and reads the vector. -/
theorem test_reset_from_halted :
    ({ start [] [(0xFFFC, 0x34), (0xFFFD, 0x12)] with a := 0x55, sp := 0x10, halted := true } : State).applyReset =
      { start [] [(0xFFFC, 0x34), (0xFFFD, 0x12)] with pc := 0x1234 } := by decide

/-- V-RESET row 3: over zeroed memory the first step from reset is BRK at 0x0000. -/
theorem test_step_from_reset :
    after State.reset fun t => t.halted = true ∧ t.p.b = true ∧ t.pc = 0x0001 := by decide

/-! ## A concrete state and operands for the hypotheses of each statement -/

open Sys2Proof.Claims

/-- An image that ends on the byte below the vector; the bytes just above the vector and just below the image are outside it. -/
theorem witness_BootStartsAtTheLoadAddress :
    (0xFFF0#16).toNat + (List.replicate 12 0xEA#8).length ≤ 0xFFFC ∧
    (0xFFFE#16).toNat > 0xFFFD ∧ (∀ k, k < 12 → 0xFFFE#16 ≠ addr ((0xFFF0#16).toNat + k)) ∧
    (0xFFEF#16).toNat < 0xFFFC ∧ (∀ k, k < 12 → 0xFFEF#16 ≠ addr ((0xFFF0#16).toNat + k)) := by decide

theorem witness_HostActionsKeepInvariant :
    State.reset.Inv ∧ State.reset.mem.wf = true := by unfold State.Inv; decide

theorem witness_ByteWrittenIsByteRead :
    State.reset.mem.wf = true ∧ (0xFFFF#16) ≠ 0x0000#16 := by decide

/-- A word at 0xFFFF, whose high byte is at 0x0000, and an address outside it. -/
theorem witness_WordAccessIsTwoByteAccesses :
    0x0001#16 ≠ 0xFFFF#16 ∧ 0x0001#16 ≠ addr (((0xFFFF#16).toNat + 1) % 65536) := by decide

theorem witness_EqualMemoriesAreEqualData :
    Memory.wf [(0x0000, 0x01), (0xFFFF, 0x80)] = true ∧ 0x0000#16 ≠ 0xFFFF#16 := by decide

theorem witness_DecodeInvertsEncode :
    (Instr.rorAbx 0xFFFF).wf = true ∧ Instr.brk.wf = true := by decide

theorem witness_EncodeInvertsDecode :
    decode [0x00, 0x11] = .ok (.brk, [0x11]) ∧ decode [0xFE, 0xFF, 0xFF] = .ok (.incAbx 0xFFFF, []) ∧
    encode (.incAbx 0xFFFF) ++ [0x11] = encode (.incAbx 0xFFFF) ++ [0x11] := by decide

theorem witness_UnknownOpcodesAreTheListedBytes :
    (0x02#8).toNat ∈ unknownBytes ∧ (0xFF#8).toNat ∈ unknownBytes ∧
    (0x00#8).toNat ∉ unknownBytes ∧ (0xFE#8).toNat ∉ unknownBytes := by decide

theorem witness_LengthIsDecidedByTheForm :
    Instr.brk.form = .IMP ∧ Instr.aslAcc.form = .ACC ∧ (Instr.bneRel 0x80).form = .REL ∧
    (Instr.ldaIzy 0xFF).form = .IZY ∧ (Instr.jmpInd 0xFFFF).form = .IND := by decide

/-- A halted state, an unknown byte, and an instruction that straddles 0xFFFF and 0x0000. -/
theorem witness_StepRunsTheDecodedInstruction :
    State.reset.halt.halted = true ∧ State.reset.halted = false ∧
    decode (start [0xFF] []).bytesAtPc = .error (.unknownOpcode 0xFF) ∧
    decode { start [] [(0xFFFF, 0xAD), (0x0000, 0x34), (0x0001, 0x12)] with pc := 0xFFFF }.bytesAtPc =
      .ok (.ldaAbs 0x1234, []) := by decide

/-- The first byte is the least significant; operand bytes the table gives no bits are 0. -/
theorem witness_PlacedWordIsTheNextInstruction :
    decodeTableWord 24 0x12348D = some (.staAbs 0x1234) ∧ decodeTableWord 8 0x00 = some .brk ∧
    decodeTableWord 8 0x4C = some (.jmpAbs 0x0000) := by decide

theorem witness_StepRaisesUnknownOpcode :
    (start [0x02] []).halted = false ∧
    ((start [0x02] []).readByte (start [0x02] []).pc).toNat ∈ unknownBytes := by decide

theorem witness_HaltedCoreStaysHalted :
    State.reset.breakAndHalt.halted = true := by decide

/-- A step that halts, by BRK. -/
theorem witness_InvariantKeptByEveryStep :
    (start [0x00] []).Inv ∧ step (start [0x00] []) = .next { start [0x00] [] with
      pc := 0x0601, halted := true, p := { Flags.cleared with b := true } } := ⟨by unfold State.Inv; decide, rfl⟩

/-- One running state for each way to halt; no byte is under two of them. -/
theorem witness_HaltsInExactlyThreeWays :
    (start [0x00] []).Inv ∧ (start [0x00] []).readByte 0x0600 = 0x00 ∧
    (start [0x60] []).Inv ∧ (start [0x60] []).readByte 0x0600 = 0x60 ∧ (start [0x60] []).cfg.linkage = .halting ∧
    (start [0xFF] []).Inv ∧ ((start [0xFF] []).readByte 0x0600).toNat ∈ unknownBytes ∧
    (∀ b ∈ [0x00#8, 0x60#8, 0xFF#8], (start [b] []).halted = false ∧ (start [b] []).pc = 0x0600) ∧
    stepCompletes (start [0x00] []) ∧ stepCompletes (start [0x60] []) ∧ stepCompletes (start [0xFF] []) := by
  refine ⟨?_, ?_, ?_, ?_, ?_, ?_, ?_, ?_, ⟨_, rfl⟩, ⟨_, rfl⟩, ⟨_, rfl⟩⟩ <;> (try unfold State.Inv) <;> decide

/-- INC $10 (R124): two fetches, the read, the write. -/
theorem witness_StepTraceIsTheMemoryEffect :
    (start [0xE6, 0x10] []).stepTrace =
      [.read 0x0600 0xE6, .read 0x0601 0x10, .read 0x0010 0x00, .write 0x0010 0x01] ∧
    step (start [0xE6, 0x10] []) = .next { start [0xE6, 0x10] [(0x0010, 0x01)] with pc := 0x0602 } := ⟨by decide, rfl⟩

theorem witness_StepMakesTheListedAccesses :
    (start [0xB1, 0xFF] []).halted = false ∧
    decode (start [0xB1, 0xFF] []).bytesAtPc = .ok (.ldaIzy 0xFF, [0x00]) := by decide

/-- A store of an unknown byte and a store of NOP, each into the byte after the store. -/
theorem witness_StoreIsSeenByTheNextFetch :
    (∀ a ∈ [0x02#8, 0xEA#8], ({ start [0x8D, 0x03, 0x06] [] with a := a } : State).halted = false ∧
      ({ start [0x8D, 0x03, 0x06] [] with a := a } : State).bytesAtPc = [0x8D, loByte 0x0603, hiByte 0x0603]) ∧
    (0x02#8).toNat ∈ unknownBytes := by decide

theorem witness_FlagsAreWrittenOnlyByTheirWriters :
    exec (.staZp 0x10) (start [] []) = .next (start [] [(0x0010, 0x00)]) ∧
    (Instr.staZp 0x10).mnemonic ∉ setsZN ++ [.BIT, .PLP, .RTI] ∧
    (Instr.staZp 0x10).mnemonic ∉ [Mnemonic.ADC, .SBC, .BIT, .CLV, .PLP, .RTI] ∧
    (Instr.staZp 0x10).mnemonic ∉ [Mnemonic.BRK, .PLP, .RTI] ∧
    (Instr.staZp 0x10).mnemonic ∉ [Mnemonic.SED, .CLD, .SEI, .CLI, .PLP, .RTI] ∧
    (Instr.staZp 0x10).mnemonic ∉
      [Mnemonic.ADC, .SBC, .CMP, .CPX, .CPY, .ASL, .LSR, .ROL, .ROR, .SEC, .CLC, .PLP, .RTI] := ⟨rfl, by decide⟩

/-- One instruction for each clause: a writer of A, an ACC form, a writer of X, of Y, and of none. -/
theorem witness_RegistersAreWrittenOnlyByTheirWriters :
    (∀ i ∈ [Instr.txa, .aslAcc, .tsx, .tay, .nop, .jsrAbs 0x0610, .rts],
      ∃ t, exec i (start [] []) = .next t) ∧
    Instr.txa.mnemonic = .TXA ∧ Instr.aslAcc.form = .ACC ∧ Instr.tsx.mnemonic = .TSX ∧ Instr.tay.mnemonic = .TAY ∧
    Instr.nop.mnemonic = .NOP ∧ (Instr.jsrAbs 0x0610).mnemonic = .JSR ∧ (start [] []).cfg.linkage = .halting := by
  refine ⟨?_, by decide⟩
  simp only [List.forall_mem_cons]
  exact ⟨⟨_, rfl⟩, ⟨_, rfl⟩, ⟨_, rfl⟩, ⟨_, rfl⟩, ⟨_, rfl⟩, ⟨_, rfl⟩, ⟨_, rfl⟩, fun _ h => nomatch h⟩

theorem witness_OtherStateIsWrittenOnlyByItsWriters :
    (∀ i ∈ [Instr.rts, .jsrAbs 0x0610, .aslAcc, .nop], ∃ t, exec i (start [] []) = .next t) ∧
    (start [] []).cfg.linkage = .halting ∧ Instr.rts.mnemonic = .RTS ∧ (Instr.jsrAbs 0x0610).mnemonic = .JSR ∧
    Instr.aslAcc.form = .ACC ∧ Instr.nop.mnemonic = .NOP := by
  refine ⟨?_, by decide⟩
  simp only [List.forall_mem_cons]
  exact ⟨⟨_, rfl⟩, ⟨_, rfl⟩, ⟨_, rfl⟩, ⟨_, rfl⟩, fun _ h => nomatch h⟩

theorem witness_DecimalAndInterruptFlagsAreInert :
    Instr.php.mnemonic = .PHP ∧ (Instr.adcImm 0x01).mnemonic ≠ .PHP ∧
    (∃ t, exec .php (start [] []) = .next t) ∧ (∃ t, exec (.adcImm 0x01) (start [] []) = .next t) ∧
    0x01FE#16 ≠ stackAddr (start [] []).sp := ⟨by decide, by decide, ⟨_, rfl⟩, ⟨_, rfl⟩, by decide⟩

theorem witness_LinkageMattersOnlyToCallAndReturn :
    Instr.rti.mnemonic ≠ .JSR ∧ Instr.rti.mnemonic ≠ .RTS ∧ ∃ t, exec .rti (start [] []) = .next t := ⟨by decide, by decide, _, rfl⟩

/-- IZX and IZY pointers at 0xFE, one below the pointer on which the parameter matters. -/
theorem witness_PointerWrapMattersOnlyAtFF :
    let s : State := { start [] [] with x := 0xFF }
    (∀ b, (Instr.ldaIzx 0xFF).operand = .izx b → (b.toNat + s.x.toNat) % 256 ≠ 0xFF) ∧
    (∀ b, (Instr.ldaIzx 0xFF).operand = .izy b → b.toNat ≠ 0xFF) ∧ (∃ t, exec (.ldaIzx 0xFF) s = .next t) ∧
    (∀ b, (Instr.ldaIzy 0xFE).operand = .izx b → (b.toNat + s.x.toNat) % 256 ≠ 0xFF) ∧
    (∀ b, (Instr.ldaIzy 0xFE).operand = .izy b → b.toNat ≠ 0xFF) ∧ ∃ t, exec (.ldaIzy 0xFE) s = .next t := by
  intro s
  refine ⟨?_, ?_, ⟨_, rfl⟩, ?_, ?_, ⟨_, rfl⟩⟩ <;> intro b h <;> cases h <;> decide

theorem witness_ZeroPageFormsResolve :
    Operand.zpx 0xFF ∈ [Operand.zp 0xFF, .zpx 0xFF, .zpy 0xFF] ∧
    (Operand.zpx 0xFF).address? { start [] [] with x := 0xFF } = some 0x00FE := by decide

theorem witness_OperandValueIsTheByteAtTheAddress :
    (Operand.zp 0xFF).form ≠ .IMM ∧ Operand.imp.form ∈ [Form.IMP, .ACC, .IMM, .REL] ∧
    Operand.imm 0xFF = .imm 0xFF ∧ (Operand.zp 0xFF).address? (start [] []) = some 0x00FF := by decide

/-- One running state for each of the eight opcode bytes, operand bytes 0xFF. -/
theorem witness_LdaStepsFromRawBytes :
    ∀ op ∈ [0xA9#8, 0xA5#8, 0xB5#8, 0xAD#8, 0xBD#8, 0xB9#8, 0xA1#8, 0xB1#8],
      (start [op, 0xFF, 0xFF] []).halted = false ∧
      (start [op, 0xFF, 0xFF] []).readByte (start [op, 0xFF, 0xFF] []).pc = op := by decide

theorem witness_LoadsPutTheOperandInTheRegister :
    (Instr.ldaIzy 0xFF).mnemonic = .LDA ∧ (Instr.ldxZpy 0xFF).mnemonic = .LDX ∧
    (Instr.ldyAbx 0xFFFF).mnemonic = .LDY := by decide

theorem witness_StoresWriteOneByte :
    ((Instr.staAbx 0xFFFF).mnemonic = .STA ∧ 0x00#8 = (start [] []).a) ∧
    ((Instr.stxZpy 0xFF).mnemonic = .STX ∧ 0x00#8 = (start [] []).x) ∧
    ((Instr.styZpx 0xFF).mnemonic = .STY ∧ 0x00#8 = (start [] []).y) := by decide

theorem witness_AdcAddsWithCarry :
    (Instr.adcIzx 0xFF).mnemonic = .ADC := by decide

theorem witness_SbcSubtractsWithBorrow :
    (Instr.sbcIzy 0xFF).mnemonic = .SBC := by decide

theorem witness_LogicCombinesBits :
    ((Instr.andImm 0xFF).mnemonic = .AND ∧ Bool.and = Bool.and) ∧ ((Instr.oraZpx 0xFF).mnemonic = .ORA ∧ Bool.or = Bool.or) ∧
    ((Instr.eorAby 0xFFFF).mnemonic = .EOR ∧ Bool.xor = Bool.xor) ∧ 7 < 8 := ⟨⟨rfl, rfl⟩, ⟨rfl, rfl⟩, ⟨rfl, rfl⟩, by decide⟩

theorem witness_BitTestsTheOperand :
    (Instr.bitZp 0xFF).mnemonic = .BIT ∧ (Instr.bitAbs 0xFFFF).mnemonic = .BIT := by decide

theorem witness_ComparesWriteOnlyFlags :
    ((Instr.cmpImm 0x00).mnemonic = .CMP ∧ 0x00#8 = (start [] []).a) ∧
    ((Instr.cpxZp 0xFF).mnemonic = .CPX ∧ 0x00#8 = (start [] []).x) ∧
    ((Instr.cpyAbs 0xFFFF).mnemonic = .CPY ∧ 0x00#8 = (start [] []).y) := by decide

theorem witness_IncDecMemoryWraps :
    (Instr.incZpx 0xFF).mnemonic = .INC ∧ (Instr.decAbx 0xFFFF).mnemonic = .DEC := by decide

theorem witness_AdcChainAddsWords :
    ({ start [] [] with a := 0xFF } : State).a = 0xFF := by decide

theorem witness_SbcChainSubtractsWords :
    (start [] []).a = 0x00 := by decide

theorem witness_ShiftsAndRotatesByOne :
    (Instr.rolAcc).mnemonic ∈ [Mnemonic.ASL, .LSR, .ROL, .ROR] ∧ Instr.rolAcc.form = .ACC ∧
    (Instr.rorAbx 0xFFFF).mnemonic ∈ [Mnemonic.ASL, .LSR, .ROL, .ROR] ∧ (Instr.rorAbx 0xFFFF).form ≠ .ACC := by decide

/-- Both outcomes of a branch on a clear flag and of a branch on a set flag. -/
theorem witness_BranchesTestTheirFlag :
    (∀ f : Bool, branchCondition { Flags.cleared with c := f } (Instr.bccRel 0x80).mnemonic = some (!f)) ∧
    (∀ f : Bool, branchCondition { Flags.cleared with v := f } (Instr.bvsRel 0x7F).mnemonic = some f) := by decide

theorem witness_JsrJumpsAndLinks :
    State.reset.cfg.linkage = .halting ∧
    ({ State.reset with cfg := { linkage := .hardware, zpPtrWrap := false }, sp := 0x00 } : State).cfg.linkage = .hardware := by decide

theorem witness_RtsHaltsOrReturns :
    State.reset.cfg.linkage = .halting ∧
    ({ State.reset with cfg := { linkage := .hardware, zpPtrWrap := true }, sp := 0xFF } : State).cfg.linkage = .hardware := by decide

theorem witness_CallThenReturnComesBack :
    ({ State.reset with cfg := { linkage := .hardware, zpPtrWrap := false }, sp := 0x01 } : State).cfg.linkage = .hardware := by decide

end Sys2Proof.Tests
end

section
/-! The reset state and the invariant: what reset leaves of any canonical memory, and what the empty memory reads as. -/
namespace Sys2Proof.Machine

/-- Every word of the memory that lists nothing, its reset vector included, reads 0x0000 (R33, R54). -/
@[simp] theorem Memory.read16_nil (a : Word) : Memory.read16 [] a = 0x0000#16 := rfl

@[simp] theorem State.reset_readByte (a : Word) : State.reset.readByte a = 0x00#8 := Memory.read_nil a

@[simp] theorem State.reset_pc : State.reset.pc = 0x0000#16 := Memory.read16_nil resetVector

/-- Reset takes its PC, memory and parameters from the state it is applied to; those of the reset state are its own. -/
@[simp] theorem State.applyReset_reset : State.reset.applyReset = State.reset := rfl

/-- Reset establishes the invariant whatever the registers held: it clears the record and B (R260), so only the canonical
form of the memory it keeps is asked for. -/
theorem State.applyReset_inv {s : State} (hmem : s.mem.wf = true) : s.applyReset.Inv := by
  have hfault : s.applyReset.fault = none := rfl
  have hb : s.applyReset.p.b = false := rfl
  refine ⟨State.applyReset_wf hmem, ?_, ?_⟩
  · intro hrecord
    exact absurd hfault hrecord
  · intro hset
    simp [hb] at hset

/-- The reset state is what reset leaves of an empty memory, so it meets the invariant. -/
theorem State.reset_inv : State.reset.Inv := by
  have hinv : State.reset.applyReset.Inv := State.applyReset_inv Memory.wf_nil
  rwa [State.applyReset_reset] at hinv

/-- Settles O2: reset establishes the invariant on the empty memory, and that memory reads 0 everywhere. -/
theorem resetStateMeetsInvariant : Obligations.ResetStateMeetsInvariant := by
  have hcfg : State.reset.cfg = { linkage := .halting, zpPtrWrap := false } := rfl
  exact ⟨State.reset_inv, State.applyReset_reset, State.reset_pc, State.reset_readByte, hcfg⟩

end Sys2Proof.Machine
end

section
/-! An instruction's meaning read off its mnemonic and its operand: the 151 rows of `exec` as one row per mnemonic (R85, R102),
the operand resolved once (R104 to R117). -/
namespace Sys2Proof
open Sys2Proof.Machine

/-- The operand value M (R117); 0 for the forms that have none, where no instruction reads it. -/
def Operand.value (o : Operand) (s : State) : Byte := (o.value? s).getD 0#8

/-- The effective address (R104 to R115); 0 for the forms that have none, where no instruction reads it. -/
def Operand.address (o : Operand) (s : State) : Word := (o.address? s).getD 0#16

/-- The offset byte of a branch (R116); 0 for the other forms, where no instruction reads it. -/
def Operand.offset : Operand → Byte
  | .rel b => b
  | _ => 0#8

/-- The resolver reads no flag: resolving an operand after writing the flags gives the same address. -/
@[simp] theorem Operand.address_setFlags (o : Operand) (s : State) (p : Flags) :
    o.address (s.setFlags p) = o.address s := by
  cases o <;> rfl

@[simp] theorem Operand.value_setFlags (o : Operand) (s : State) (p : Flags) : o.value (s.setFlags p) = o.value s := by
  cases o <;> rfl

/-- Every instruction pairs its mnemonic with an operand form of the mnemonic's row (R86). -/
theorem Instr.wf_eq_true (i : Instr) : i.wf = true := by
  cases i <;> rfl

/-- Only the shifts and rotates have an accumulator form (R105). -/
theorem Instr.mnemonic_of_form_acc {i : Instr} (h : i.form = .ACC) : i.mnemonic ∈ [Mnemonic.ASL, .LSR, .ROL, .ROR] := by
  have hrow : i.mnemonic.forms.contains i.form = true := i.wf_eq_true
  rw [h] at hrow
  revert hrow
  cases i.mnemonic <;> decide

end Sys2Proof

namespace Sys2Proof.Machine

/-- A shift or rotate, the variant chosen by the operand form (R180). -/
def State.shift (s : State) (o : Operand) (f : ShiftOp) : State :=
  if o.form = .ACC then s.shiftA f else s.shiftMem (o.address s) f

/-- What an instruction with mnemonic `m` and operand `o` makes of a state. -/
def effect (m : Mnemonic) (o : Operand) (s : State) : State :=
  match m with
  | .LDA => loadA (o.value s) s
  | .LDX => loadX (o.value s) s
  | .LDY => loadY (o.value s) s
  | .STA => s.writeByte (o.address s) s.a
  | .STX => s.writeByte (o.address s) s.x
  | .STY => s.writeByte (o.address s) s.y
  | .TAX => loadX s.a s
  | .TAY => loadY s.a s
  | .TXA => loadA s.x s
  | .TYA => loadA s.y s
  | .TSX => loadX s.sp s
  | .TXS => s.setSp s.x
  | .ADC => addToA (o.value s) s
  | .SBC => addToA (o.value s ^^^ 0xFF#8) s
  | .AND => loadA (s.a &&& o.value s) s
  | .ORA => loadA (s.a ||| o.value s) s
  | .EOR => loadA (s.a ^^^ o.value s) s
  | .BIT => bitA (o.value s) s
  | .CMP => compareWith s.a (o.value s) s
  | .CPX => compareWith s.x (o.value s) s
  | .CPY => compareWith s.y (o.value s) s
  | .INC => s.incMem (o.address s)
  | .DEC => s.decMem (o.address s)
  | .INX => loadX (s.x + 1) s
  | .INY => loadY (s.y + 1) s
  | .DEX => loadX (s.x - 1) s
  | .DEY => loadY (s.y - 1) s
  | .ASL => s.shift o aslOp
  | .LSR => s.shift o lsrOp
  | .ROL => s.shift o rolOp
  | .ROR => s.shift o rorOp
  | .BCC => s.branch (!s.p.c) o.offset
  | .BCS => s.branch s.p.c o.offset
  | .BEQ => s.branch s.p.z o.offset
  | .BNE => s.branch (!s.p.z) o.offset
  | .BMI => s.branch s.p.n o.offset
  | .BPL => s.branch (!s.p.n) o.offset
  | .BVC => s.branch (!s.p.v) o.offset
  | .BVS => s.branch s.p.v o.offset
  | .JMP => s.setPc (o.address s)
  | .JSR => s.callSubroutine (o.address s)
  | .RTS => s.returnFromSubroutine
  | .RTI => s.returnFromInterrupt
  | .PHA => s.push s.a
  | .PHP => s.push s.p.pushed
  | .PLA => s.pullA
  | .PLP => s.pullFlags
  | .CLC => s.setFlags { s.p with c := false }
  | .SEC => s.setFlags { s.p with c := true }
  | .CLD => s.setFlags { s.p with d := false }
  | .SED => s.setFlags { s.p with d := true }
  | .CLI => s.setFlags { s.p with i := false }
  | .SEI => s.setFlags { s.p with i := true }
  | .CLV => s.setFlags { s.p with v := false }
  | .NOP => s
  | .BRK => s.breakAndHalt

/-- An instruction does what its mnemonic does to its operand, and always ends in a next state. -/
theorem exec_eq_effect (i : Instr) (s : State) : exec i s = .next (effect i.mnemonic i.operand s) := by
  cases i <;> rfl

theorem eq_effect_of_exec {i : Instr} {s t : State} (h : exec i s = .next t) : t = effect i.mnemonic i.operand s :=
  Host.Outcome.next.inj (h.symm.trans (exec_eq_effect i s))

end Sys2Proof.Machine
end

section
/-! What the operations that instructions are made of write of the registers and of P, and what they keep. -/
namespace Sys2Proof.Machine

/-! ## Z and N already set from a value -/

@[simp] theorem Flags.setZN_setZN (p : Flags) (v : Byte) : (p.setZN v).setZN v = p.setZN v := rfl
@[simp] theorem Flags.ofSum_setZN (p : Flags) (r : Sum) : (p.ofSum r).setZN r.result = p.ofSum r := rfl
@[simp] theorem Flags.ofShift_setZN (p : Flags) (r : Shifted) : (p.ofShift r).setZN r.result = p.ofShift r := rfl

/-! ## Operations that write a register -/

@[simp] theorem loadA_fields (m : Byte) (s : State) :
    (loadA m s).a = m ∧ (loadA m s).x = s.x ∧ (loadA m s).y = s.y ∧ (loadA m s).sp = s.sp ∧
    (loadA m s).p = s.p.setZN m := ⟨rfl, rfl, rfl, rfl, rfl⟩

@[simp] theorem loadX_fields (m : Byte) (s : State) :
    (loadX m s).a = s.a ∧ (loadX m s).x = m ∧ (loadX m s).y = s.y ∧ (loadX m s).sp = s.sp ∧
    (loadX m s).p = s.p.setZN m := ⟨rfl, rfl, rfl, rfl, rfl⟩

@[simp] theorem loadY_fields (m : Byte) (s : State) :
    (loadY m s).a = s.a ∧ (loadY m s).x = s.x ∧ (loadY m s).y = m ∧ (loadY m s).sp = s.sp ∧
    (loadY m s).p = s.p.setZN m := ⟨rfl, rfl, rfl, rfl, rfl⟩

@[simp] theorem addToA_fields (m : Byte) (s : State) :
    (addToA m s).a = (add8 s.a m s.p.c).result ∧ (addToA m s).x = s.x ∧ (addToA m s).y = s.y ∧
    (addToA m s).sp = s.sp ∧ (addToA m s).p = s.p.ofSum (add8 s.a m s.p.c) := ⟨rfl, rfl, rfl, rfl, rfl⟩

@[simp] theorem State.pullA_fields (s : State) :
    s.pullA.a = s.readByte (stackAddr (s.sp + 1)) ∧ s.pullA.x = s.x ∧ s.pullA.y = s.y ∧ s.pullA.sp = s.sp + 1 ∧
    s.pullA.p = s.p.setZN (s.readByte (stackAddr (s.sp + 1))) := ⟨rfl, rfl, rfl, rfl, rfl⟩

@[simp] theorem State.shiftA_fields (s : State) (f : ShiftOp) :
    (s.shiftA f).a = (f s.a s.p.c).result ∧ (s.shiftA f).x = s.x ∧ (s.shiftA f).y = s.y ∧ (s.shiftA f).sp = s.sp ∧
    (s.shiftA f).p = s.p.ofShift (f s.a s.p.c) := ⟨rfl, rfl, rfl, rfl, rfl⟩

/-! ## Operations that write flags or memory and no register -/

@[simp] theorem bitA_fields (m : Byte) (s : State) :
    (bitA m s).a = s.a ∧ (bitA m s).x = s.x ∧ (bitA m s).y = s.y ∧ (bitA m s).sp = s.sp ∧
    (bitA m s).p = s.p.bitTest s.a m := ⟨rfl, rfl, rfl, rfl, rfl⟩

@[simp] theorem compareWith_fields (reg m : Byte) (s : State) :
    (compareWith reg m s).a = s.a ∧ (compareWith reg m s).x = s.x ∧ (compareWith reg m s).y = s.y ∧
    (compareWith reg m s).sp = s.sp ∧ (compareWith reg m s).p = s.p.compare reg m := ⟨rfl, rfl, rfl, rfl, rfl⟩

@[simp] theorem State.incMem_fields (s : State) (ea : Word) :
    (s.incMem ea).a = s.a ∧ (s.incMem ea).x = s.x ∧ (s.incMem ea).y = s.y ∧ (s.incMem ea).sp = s.sp ∧
    (s.incMem ea).p = s.p.setZN (s.readByte ea + 1) := ⟨rfl, rfl, rfl, rfl, rfl⟩

@[simp] theorem State.decMem_fields (s : State) (ea : Word) :
    (s.decMem ea).a = s.a ∧ (s.decMem ea).x = s.x ∧ (s.decMem ea).y = s.y ∧ (s.decMem ea).sp = s.sp ∧
    (s.decMem ea).p = s.p.setZN (s.readByte ea - 1) := ⟨rfl, rfl, rfl, rfl, rfl⟩

@[simp] theorem State.shiftMem_fields (s : State) (ea : Word) (f : ShiftOp) :
    (s.shiftMem ea f).a = s.a ∧ (s.shiftMem ea f).x = s.x ∧ (s.shiftMem ea f).y = s.y ∧ (s.shiftMem ea f).sp = s.sp ∧
    (s.shiftMem ea f).p = s.p.ofShift (f (s.readByte ea) s.p.c) := ⟨rfl, rfl, rfl, rfl, rfl⟩

@[simp] theorem State.breakAndHalt_fields (s : State) :
    s.breakAndHalt.a = s.a ∧ s.breakAndHalt.x = s.x ∧ s.breakAndHalt.y = s.y ∧ s.breakAndHalt.sp = s.sp ∧
    s.breakAndHalt.p = { s.p with b := true } := ⟨rfl, rfl, rfl, rfl, rfl⟩

/-! ## Operations with two ends -/

@[simp] theorem State.branch_fields (s : State) (cond : Bool) (b : Byte) :
    (s.branch cond b).a = s.a ∧ (s.branch cond b).x = s.x ∧ (s.branch cond b).y = s.y ∧ (s.branch cond b).sp = s.sp ∧
    (s.branch cond b).p = s.p := by
  cases cond <;> exact ⟨rfl, rfl, rfl, rfl, rfl⟩

theorem State.callSubroutine_halting {s : State} (h : s.cfg.linkage = .halting) (ea : Word) :
    s.callSubroutine ea = s.setPc ea := by
  simp [State.callSubroutine, h]

theorem State.callSubroutine_hardware {s : State} (h : s.cfg.linkage = .hardware) (ea : Word) :
    s.callSubroutine ea = (s.pushWord (s.pc - 1)).setPc ea := by
  simp [State.callSubroutine, h]

theorem State.returnFromSubroutine_halting {s : State} (h : s.cfg.linkage = .halting) :
    s.returnFromSubroutine = s.halt := by
  simp [State.returnFromSubroutine, h]

theorem State.returnFromSubroutine_hardware {s : State} (h : s.cfg.linkage = .hardware) :
    s.returnFromSubroutine = s.pullWord.2.setPc (s.pullWord.1 + 1) := by
  simp [State.returnFromSubroutine, h]

/-- A call keeps A, X, Y and P under both values of LINKAGE. -/
@[simp] theorem State.callSubroutine_fields (s : State) (ea : Word) :
    (s.callSubroutine ea).a = s.a ∧ (s.callSubroutine ea).x = s.x ∧ (s.callSubroutine ea).y = s.y ∧
    (s.callSubroutine ea).p = s.p := by
  cases h : s.cfg.linkage
  · simp [State.callSubroutine_halting h]
  · simp [State.callSubroutine_hardware h]

/-- A return keeps A, X, Y and P under both values of LINKAGE. -/
@[simp] theorem State.returnFromSubroutine_fields (s : State) :
    s.returnFromSubroutine.a = s.a ∧ s.returnFromSubroutine.x = s.x ∧ s.returnFromSubroutine.y = s.y ∧
    s.returnFromSubroutine.p = s.p := by
  cases h : s.cfg.linkage
  · simp [State.returnFromSubroutine_halting h]
  · simp [State.returnFromSubroutine_hardware h]

theorem State.shift_of_acc {o : Operand} (h : o.form = .ACC) (s : State) (f : ShiftOp) : s.shift o f = s.shiftA f :=
  if_pos h

theorem State.shift_of_not_acc {o : Operand} (h : o.form ≠ .ACC) (s : State) (f : ShiftOp) :
    s.shift o f = s.shiftMem (o.address s) f :=
  if_neg h

/-- Both variants of a shift keep X, Y, SP, V, B, D and I. -/
@[simp] theorem State.shift_fields (s : State) (o : Operand) (f : ShiftOp) :
    (s.shift o f).x = s.x ∧ (s.shift o f).y = s.y ∧ (s.shift o f).sp = s.sp ∧ (s.shift o f).p.v = s.p.v ∧
    (s.shift o f).p.b = s.p.b ∧ (s.shift o f).p.d = s.p.d ∧ (s.shift o f).p.i = s.p.i := by
  by_cases h : o.form = .ACC
  · simp [State.shift_of_acc h]
  · simp [State.shift_of_not_acc h]

end Sys2Proof.Machine
end

section
/-! Who writes which flag (R29): in each lemma the writers are the cases that the hypothesis excludes. -/
namespace Sys2Proof.Machine
open Sys2Proof.Claims

section
variable {m : Mnemonic}

theorem effect_keeps_nz (h : m ∉ setsZN ++ [.BIT, .PLP, .RTI]) (o : Operand) (s : State) :
    (effect m o s).p.n = s.p.n ∧ (effect m o s).p.z = s.p.z := by
  cases m
  case STA | STX | STY | TXS | BCC | BCS | BEQ | BNE | BMI | BPL | BVC | BVS | JMP | JSR | RTS | PHA | PHP | CLC | SEC | CLD
      | SED | CLI | SEI | CLV | NOP | BRK => simp [effect]
  all_goals simp [setsZN] at h

theorem effect_keeps_v (h : m ∉ [Mnemonic.ADC, .SBC, .BIT, .CLV, .PLP, .RTI]) (o : Operand) (s : State) :
    (effect m o s).p.v = s.p.v := by
  cases m
  case ADC | SBC | BIT | CLV | PLP | RTI => simp at h
  all_goals simp [effect]

theorem effect_keeps_b (h : m ∉ [Mnemonic.BRK, .PLP, .RTI]) (o : Operand) (s : State) :
    (effect m o s).p.b = s.p.b := by
  cases m
  case BRK | PLP | RTI => simp at h
  all_goals simp [effect]

theorem effect_keeps_d (h : m ∉ [Mnemonic.SED, .CLD, .PLP, .RTI]) (o : Operand) (s : State) :
    (effect m o s).p.d = s.p.d := by
  cases m
  case SED | CLD | PLP | RTI => simp at h
  all_goals simp [effect]

theorem effect_keeps_i (h : m ∉ [Mnemonic.SEI, .CLI, .PLP, .RTI]) (o : Operand) (s : State) :
    (effect m o s).p.i = s.p.i := by
  cases m
  case SEI | CLI | PLP | RTI => simp at h
  all_goals simp [effect]

theorem effect_keeps_c
    (h : m ∉ [Mnemonic.ADC, .SBC, .CMP, .CPX, .CPY, .ASL, .LSR, .ROL, .ROR, .SEC, .CLC, .PLP, .RTI]) (o : Operand)
    (s : State) : (effect m o s).p.c = s.p.c := by
  cases m
  case ADC | SBC | CMP | CPX | CPY | ASL | LSR | ROL | ROR | SEC | CLC | PLP | RTI => simp at h
  all_goals simp [effect]

end

/-- Settles O23: flag by flag, over the effects of the mnemonics. -/
theorem flagsAreWrittenOnlyByTheirWriters : Obligations.FlagsAreWrittenOnlyByTheirWriters := by
  intro i s t h
  rw [eq_effect_of_exec h]
  exact ⟨(effect_keeps_nz · _ _), (effect_keeps_v · _ _), (effect_keeps_b · _ _), (effect_keeps_d · _ _),
    (effect_keeps_i · _ _), (effect_keeps_c · _ _)⟩

end Sys2Proof.Machine
end

section
/-! Who writes A, X, Y and SP (R21 to R23), and that Z and N follow each value written to A, X or Y. -/
namespace Sys2Proof.Machine
open Sys2Proof.Claims

/-- The statements' own Z and N are those of the model's helper (R118). -/
theorem withZN_eq_setZN (p : Flags) (v : Byte) : withZN p v = p.setZN v := by
  have hz : decide (v.toNat = 0) = (v == 0#8) := by
    rw [Bool.eq_iff_iff]
    simp [BitVec.toNat_eq]
  have hn : decide (128 ≤ v.toNat) = v.getLsbD 7 := (BitVec.msb_eq_decide v).symm
  simp [withZN, Flags.setZN, hz, hn]

/-- A shift in the accumulator form sets Z and N from the value it leaves in A (R180). -/
theorem State.shift_acc_setZN {o : Operand} (h : o.form = .ACC) (s : State) (f : ShiftOp) :
    (s.shift o f).p = (s.shift o f).p.setZN (s.shift o f).a := by
  simp [State.shift_of_acc h]

/-- A shift in a memory form keeps A (R180). -/
theorem State.shift_mem_a {o : Operand} (h : o.form ≠ .ACC) (s : State) (f : ShiftOp) : (s.shift o f).a = s.a := by
  simp [State.shift_of_not_acc h]

section
variable {m : Mnemonic}

theorem effect_setZN_a (h : m ∈ [Mnemonic.LDA, .ADC, .SBC, .AND, .ORA, .EOR, .PLA, .TXA, .TYA]) (o : Operand) (s : State) :
    (effect m o s).p = (effect m o s).p.setZN (effect m o s).a := by
  fin_cases h <;> simp [effect]

theorem effect_setZN_a_of_acc (h : m ∈ [Mnemonic.ASL, .LSR, .ROL, .ROR]) {o : Operand} (ho : o.form = .ACC) (s : State) :
    (effect m o s).p = (effect m o s).p.setZN (effect m o s).a := by
  fin_cases h <;> exact State.shift_acc_setZN ho s _

theorem effect_setZN_x (h : m ∈ [Mnemonic.LDX, .TAX, .TSX, .INX, .DEX]) (o : Operand) (s : State) :
    (effect m o s).p = (effect m o s).p.setZN (effect m o s).x := by
  fin_cases h <;> simp [effect]

theorem effect_setZN_y (h : m ∈ [Mnemonic.LDY, .TAY, .INY, .DEY]) (o : Operand) (s : State) :
    (effect m o s).p = (effect m o s).p.setZN (effect m o s).y := by
  fin_cases h <;> simp [effect]

theorem effect_keeps_a {o : Operand}
    (h : ¬ (m ∈ [Mnemonic.LDA, .ADC, .SBC, .AND, .ORA, .EOR, .PLA, .TXA, .TYA] ∨ o.form = .ACC)) (s : State) :
    (effect m o s).a = s.a := by
  obtain ⟨hm, ho⟩ := not_or.mp h
  cases m
  case LDA | ADC | SBC | AND | ORA | EOR | PLA | TXA | TYA => simp at hm
  case ASL | LSR | ROL | ROR => exact State.shift_mem_a ho s _
  all_goals simp [effect]

theorem effect_keeps_x (h : m ∉ [Mnemonic.LDX, .TAX, .TSX, .INX, .DEX]) (o : Operand) (s : State) :
    (effect m o s).x = s.x := by
  cases m
  case LDX | TAX | TSX | INX | DEX => simp at h
  all_goals simp [effect]

theorem effect_keeps_y (h : m ∉ [Mnemonic.LDY, .TAY, .INY, .DEY]) (o : Operand) (s : State) :
    (effect m o s).y = s.y := by
  cases m
  case LDY | TAY | INY | DEY => simp at h
  all_goals simp [effect]

theorem effect_keeps_sp (h : m ∉ [Mnemonic.PHA, .PHP, .PLA, .PLP, .TXS, .RTI, .JSR, .RTS]) (o : Operand) (s : State) :
    (effect m o s).sp = s.sp := by
  cases m
  case PHA | PHP | PLA | PLP | TXS | RTI | JSR | RTS => simp at h
  all_goals simp [effect]

/-- Under LINKAGE = halting, call and return leave the stack alone (R201, R203). -/
theorem effect_keeps_sp_of_halting (h : m ∈ [Mnemonic.JSR, .RTS]) (o : Operand) {s : State}
    (hl : s.cfg.linkage = .halting) : (effect m o s).sp = s.sp := by
  fin_cases h
  · simp [effect, State.callSubroutine_halting hl]
  · simp [effect, State.returnFromSubroutine_halting hl]

end

/-- Settles O24: register by register, over the effects of the mnemonics; the accumulator form is that of the shifts. -/
theorem registersAreWrittenOnlyByTheirWriters : Obligations.RegistersAreWrittenOnlyByTheirWriters := by
  intro i s t h
  rw [eq_effect_of_exec h]
  simp only [withZN_eq_setZN]
  refine ⟨?_, (effect_keeps_a · s), (effect_setZN_x · _ _), (effect_keeps_x · _ _), (effect_setZN_y · _ _),
    (effect_keeps_y · _ _), (effect_keeps_sp · _ _), (effect_keeps_sp_of_halting · _)⟩
  rintro (hm | hacc)
  · exact effect_setZN_a hm _ _
  · exact effect_setZN_a_of_acc (Instr.mnemonic_of_form_acc hacc) hacc s

end Sys2Proof.Machine
end

section
/-! D and I are storage only (R30, R235): two runs of one instruction from states that differ in them alone. -/
namespace Sys2Proof.Machine
open Sys2Proof.Claims

/-- The state with D and I at the given values. -/
def State.withDI (s : State) (d i : Bool) : State := s.setFlags { s.p with d := d, i := i }

@[simp] theorem State.withDI_self (s : State) : s.withDI s.p.d s.p.i = s := rfl

@[simp] theorem State.withDI_withDI (s : State) (d i d' i' : Bool) : (s.withDI d i).withDI d' i' = s.withDI d' i' := rfl

/-! ## Operations with two ends take the same one whatever D and I hold -/

theorem State.branch_withDI (s : State) (d i cond : Bool) (b : Byte) :
    (s.withDI d i).branch cond b = (s.branch cond b).withDI d i := by
  cases cond <;> rfl

theorem State.callSubroutine_withDI (s : State) (d i : Bool) (ea : Word) :
    (s.withDI d i).callSubroutine ea = (s.callSubroutine ea).withDI d i := by
  cases h : s.cfg.linkage
  · rw [State.callSubroutine_halting h, State.callSubroutine_halting (s := s.withDI d i) h]; rfl
  · rw [State.callSubroutine_hardware h, State.callSubroutine_hardware (s := s.withDI d i) h]; rfl

theorem State.returnFromSubroutine_withDI (s : State) (d i : Bool) :
    (s.withDI d i).returnFromSubroutine = s.returnFromSubroutine.withDI d i := by
  cases h : s.cfg.linkage
  · rw [State.returnFromSubroutine_halting h, State.returnFromSubroutine_halting (s := s.withDI d i) h]; rfl
  · rw [State.returnFromSubroutine_hardware h, State.returnFromSubroutine_hardware (s := s.withDI d i) h]; rfl

theorem State.shift_withDI (s : State) (d i : Bool) (o : Operand) (f : ShiftOp) :
    (s.withDI d i).shift o f = (s.shift o f).withDI d i := by
  by_cases h : o.form = .ACC
  · rw [State.shift_of_acc h, State.shift_of_acc h]; rfl
  · rw [State.shift_of_not_acc h, State.shift_of_not_acc h, State.withDI, Operand.address_setFlags]; rfl

/-- Every mnemonic but PHP does the same whatever D and I hold, up to D and I themselves. -/
theorem effect_withDI {m : Mnemonic} (h : m ≠ .PHP) (o : Operand) (s : State) (d i : Bool) :
    (effect m o (s.withDI d i)).withDI (effect m o s).p.d (effect m o s).p.i = effect m o s := by
  have hvalue : o.value (s.withDI d i) = o.value s := o.value_setFlags s _
  have haddress : o.address (s.withDI d i) = o.address s := o.address_setFlags s _
  cases m
  case PHP => exact absurd rfl h
  case BCC | BCS | BEQ | BNE | BMI | BPL | BVC | BVS => simp only [effect]; rw [State.branch_withDI]; rfl
  case JSR => simp only [effect, haddress, State.callSubroutine_withDI]; rfl
  case RTS => simp only [effect, State.returnFromSubroutine_withDI]; rfl
  case ASL | LSR | ROL | ROR => simp only [effect, State.shift_withDI]; rfl
  all_goals simp only [effect, hvalue, haddress]; rfl

/-- A push, whatever byte it pushes, does the same to all but memory whatever D and I hold. -/
theorem State.push_withDI (s : State) (v w : Byte) (d i : Bool) :
    { (s.withDI d i).push w with
      mem := (s.push v).mem, p := { ((s.withDI d i).push w).p with d := s.p.d, i := s.p.i } } = s.push v := rfl

/-- Settles O26: no operation reads D or I, and PHP reads them only into the byte it pushes. -/
theorem decimalAndInterruptFlagsAreInert : Obligations.DecimalAndInterruptFlagsAreInert := by
  intro i s t d f h
  rw [eq_effect_of_exec h]
  refine ⟨effect i.mnemonic i.operand (s.withDI d f), exec_eq_effect i (s.withDI d f),
    (effect_withDI · _ s d f), fun hphp => ?_⟩
  rw [hphp]
  refine ⟨State.push_withDI s _ _ d f, fun a ha => ?_⟩
  calc ((s.withDI d f).push _).readByte a
      _ = s.readByte a := State.push_readByte_other (s.withDI d f) _ ha
      _ = (s.push s.p.pushed).readByte a := (State.push_readByte_other s _ ha).symm

end Sys2Proof.Machine
end

section
/-! The byte port and its 16-bit forms (R52, R54 to R57), and memories in canonical form as data. -/
namespace Sys2Proof.Machine
open Sys2Proof.Claims

theorem State.writeByte_onlyByteAt (s : State) (a : Word) (v : Byte) : OnlyByteAt s (s.writeByte a v) a v :=
  ⟨s.writeByte_readByte_same a v, fun _ hne => s.writeByte_readByte_other v hne⟩

theorem State.writeByte_sameButMemory (s : State) (a : Word) (v : Byte) : SameButMemory s (s.writeByte a v) := rfl

/-- Settles O5: the laws of a single write, at the state's port. -/
theorem byteWrittenIsByteRead : Obligations.ByteWrittenIsByteRead := fun s a v =>
  ⟨s.writeByte_onlyByteAt a v, s.writeByte_sameButMemory a v, State.writeByte_wf a v⟩

/-- The successor of an address, wrapped as R57 writes it. -/
theorem addr_succ_mod (a : Word) : addr ((a.toNat + 1) % 65536) = a + 1 := by
  apply BitVec.eq_of_toNat_eq
  simp [addr, BitVec.toNat_add]

/-- The two addresses of a 16-bit access are never the same cell, also where they wrap. -/
theorem self_ne_succ (a : Word) : a ≠ a + 1 := by
  bv_omega

theorem Memory.read_write16_low (m : Memory) (a w : Word) : (m.write16 a w).read a = loByte w := by
  rw [Memory.write16, Memory.read_write_other _ _ (self_ne_succ a), Memory.read_write_same]

theorem Memory.read_write16_high (m : Memory) (a w : Word) : (m.write16 a w).read (a + 1) = hiByte w :=
  Memory.read_write_same _ _ _

theorem Memory.read_write16_other (m : Memory) {a b : Word} (w : Word) (hlow : b ≠ a) (hhigh : b ≠ a + 1) :
    (m.write16 a w).read b = m.read b := by
  rw [Memory.write16, Memory.read_write_other _ _ hhigh, Memory.read_write_other _ _ hlow]

theorem Memory.read16_write16 (m : Memory) (a w : Word) : (m.write16 a w).read16 a = w := by
  rw [Memory.read16, Memory.read_write16_high, Memory.read_write16_low, mkWord_hiByte_loByte]

theorem Memory.toNat_read16 (m : Memory) (a : Word) :
    (m.read16 a).toNat = (m.read a).toNat + 256 * (m.read (a + 1)).toNat := by
  rw [Memory.read16, toNat_mkWord, Nat.add_comm]

/-- Settles O6: the second address is the successor, and each byte of the pair is read by its own law. -/
theorem wordAccessIsTwoByteAccesses : Obligations.WordAccessIsTwoByteAccesses := by
  intro m a w
  rw [addr_succ_mod, Memory.read_write16_low, Memory.read_write16_high]
  exact ⟨m.read16_write16 a w, toNat_loByte w, toNat_hiByte w, fun _ => m.read_write16_other w, m.toNat_read16 a⟩

theorem Memory.write_write_same {m : Memory} (h : m.wf = true) (a : Word) (v w : Byte) :
    (m.write a v).write a w = m.write a w := by
  refine Memory.ext_of_read (Memory.wf_write a w (Memory.wf_write a v h)) (Memory.wf_write a w h) fun c => ?_
  by_cases hc : c = a <;> simp [Memory.read_write, hc]

theorem Memory.write_comm {m : Memory} (h : m.wf = true) {a b : Word} (hne : a ≠ b) (v w : Byte) :
    (m.write a v).write b w = (m.write b w).write a v := by
  refine Memory.ext_of_read (Memory.wf_write b w (Memory.wf_write a v h))
    (Memory.wf_write a v (Memory.wf_write b w h)) fun c => ?_
  by_cases hc : c = a
  · simp [Memory.read_write, hc, hne]
  · simp [Memory.read_write, hc]

theorem Memory.write_read {m : Memory} (h : m.wf = true) (a : Word) : m.write a (m.read a) = m := by
  refine Memory.ext_of_read (Memory.wf_write a _ h) h fun c => ?_
  by_cases hc : c = a <;> simp [Memory.read_write, hc]

/-- Settles O7: canonical memories that read the same are the same list. -/
theorem equalMemoriesAreEqualData : Obligations.EqualMemoriesAreEqualData := fun _ h a _ v w =>
  ⟨Memory.write_write_same h a v w, fun hne => Memory.write_comm h hne v w, Memory.write_read h a⟩

end Sys2Proof.Machine
end

section
/-! What each operation does to memory: the read-modify-writes write one byte of it, the others here keep it. -/
namespace Sys2Proof.Machine

@[simp] theorem loadA_mem (m : Byte) (s : State) : (loadA m s).mem = s.mem := rfl
@[simp] theorem loadX_mem (m : Byte) (s : State) : (loadX m s).mem = s.mem := rfl
@[simp] theorem loadY_mem (m : Byte) (s : State) : (loadY m s).mem = s.mem := rfl
@[simp] theorem addToA_mem (m : Byte) (s : State) : (addToA m s).mem = s.mem := rfl
@[simp] theorem bitA_mem (m : Byte) (s : State) : (bitA m s).mem = s.mem := rfl
@[simp] theorem compareWith_mem (reg m : Byte) (s : State) : (compareWith reg m s).mem = s.mem := rfl
@[simp] theorem State.pullA_mem (s : State) : s.pullA.mem = s.mem := rfl
@[simp] theorem State.breakAndHalt_mem (s : State) : s.breakAndHalt.mem = s.mem := rfl
@[simp] theorem State.shiftA_mem (s : State) (f : ShiftOp) : (s.shiftA f).mem = s.mem := rfl

@[simp] theorem State.incMem_mem (s : State) (ea : Word) : (s.incMem ea).mem = s.mem.write ea (s.readByte ea + 1) := rfl
@[simp] theorem State.decMem_mem (s : State) (ea : Word) : (s.decMem ea).mem = s.mem.write ea (s.readByte ea - 1) := rfl
@[simp] theorem State.shiftMem_mem (s : State) (ea : Word) (f : ShiftOp) :
    (s.shiftMem ea f).mem = s.mem.write ea (f (s.readByte ea) s.p.c).result := rfl

@[simp] theorem State.branch_mem (s : State) (cond : Bool) (b : Byte) : (s.branch cond b).mem = s.mem := by
  cases cond <;> rfl

@[simp] theorem State.returnFromSubroutine_mem (s : State) : s.returnFromSubroutine.mem = s.mem := by
  cases h : s.cfg.linkage
  · simp [State.returnFromSubroutine_halting h]
  · simp [State.returnFromSubroutine_hardware h]

end Sys2Proof.Machine
end

section
/-! Operands and addresses: which forms have one, who writes there, and that the resolver does not read PC. -/
namespace Sys2Proof
open Sys2Proof.Machine

/-- An operand of a memory form has the address that instructions on it use (R107 to R115). -/
theorem Operand.address?_eq_some {o : Operand} (h : o.form ∉ [Form.IMP, .ACC, .IMM, .REL]) (s : State) :
    o.address? s = some (o.address s) := by
  cases o
  case imp | acc | imm | rel => simp [Operand.form] at h
  all_goals rfl

/-- The forms of the mnemonics that write at an effective address: all have an address but the shifts' accumulator form
(R86). -/
theorem Mnemonic.forms_of_writer :
    ∀ m ∈ [Mnemonic.STA, .STX, .STY, .INC, .DEC, .ASL, .LSR, .ROL, .ROR], ∀ f ∈ m.forms,
      f ≠ .ACC → f ∉ [Form.IMP, .ACC, .IMM, .REL] := by
  decide

theorem Instr.form_mem_forms (i : Instr) : i.form ∈ i.mnemonic.forms :=
  List.contains_iff_mem.mp i.wf_eq_true

theorem Instr.address?_of_writer {i : Instr}
    (hm : i.mnemonic ∈ [Mnemonic.STA, .STX, .STY, .INC, .DEC, .ASL, .LSR, .ROL, .ROR]) (hacc : i.form ≠ .ACC) (s : State) :
    i.operand.address? s = some (i.operand.address s) :=
  Operand.address?_eq_some (Mnemonic.forms_of_writer _ hm _ i.form_mem_forms hacc) s

@[simp] theorem Operand.address?_setPc (o : Operand) (s : State) (pc : Word) :
    o.address? (s.setPc pc) = o.address? s := by
  cases o <;> rfl

end Sys2Proof
end

section
/-! The access list of a step is its memory effect (R63, R124): part by part, the fetches, the pointer reads and the data
accesses account for what becomes of memory. -/
namespace Sys2Proof.Machine

/-- The accesses account for `m` becoming `m'`: their writes lead there, and their reads show memory as it is when they are
made. -/
def AccountFor (events : List BusEvent) (m m' : Memory) : Prop :=
  m' = events.foldl BusEvent.apply m ∧ readsShowMemory m events

section
variable {m m' m'' : Memory} {events : List BusEvent}

@[simp] theorem accountFor_nil : AccountFor [] m m' ↔ m' = m := by
  simp [AccountFor, readsShowMemory]

@[simp] theorem accountFor_read {a : Word} {v : Byte} :
    AccountFor (.read a v :: events) m m' ↔ m.read a = v ∧ AccountFor events m m' := by
  simp [AccountFor, readsShowMemory, BusEvent.apply, and_left_comm]

@[simp] theorem accountFor_write {a : Word} {v : Byte} :
    AccountFor (.write a v :: events) m m' ↔ AccountFor events (m.write a v) m' := Iff.rfl

/-- A read that shows the byte the state holds is right at the state's own memory. -/
@[simp] theorem accountFor_readEvent {s : State} {a : Word} :
    AccountFor (s.readEvent a :: events) s.mem m' ↔ AccountFor events s.mem m' := by
  simp [State.readEvent, State.readByte]

/-- Accesses made one list after the other account for one change after the other. -/
theorem AccountFor.append {later : List BusEvent} (h : AccountFor events m m') (h' : AccountFor later m' m'') :
    AccountFor (events ++ later) m m'' := by
  induction events generalizing m with
  | nil => rwa [accountFor_nil.mp h] at h'
  | cons e rest ih =>
    cases e with
    | read a v =>
      obtain ⟨hv, hrest⟩ := accountFor_read.mp h
      exact accountFor_read.mpr ⟨hv, ih hrest⟩
    | write a v => exact ih h

end

/-! ## Fetches and pointer reads only read -/

theorem accountFor_readEvents (s : State) (addrs : List Word) : AccountFor (addrs.map s.readEvent) s.mem s.mem := by
  induction addrs with
  | nil => simp
  | cons a rest ih => simpa using ih

theorem accountFor_fetchEvents (s : State) (n : Nat) : AccountFor (s.fetchEvents n) s.mem s.mem := by
  have h := accountFor_readEvents s ((List.range n).map fun k => s.pc + BitVec.ofNat 16 k)
  rwa [List.map_map] at h

theorem accountFor_pointerEvents (s : State) (o : Operand) : AccountFor (s.pointerEvents o) s.mem s.mem := by
  cases o <;> simp [State.pointerEvents, State.zpPtrEvents]

/-! ## Data accesses -/

/-- The accumulator form of a shift has no address, so it makes no access (R105). -/
theorem State.modifyEvents_of_acc {o : Operand} (h : o.form = .ACC) (s : State) (f : Byte → Byte) :
    s.modifyEvents o f = [] := by
  cases o
  case acc => rfl
  all_goals simp [Operand.form] at h

theorem State.atAddress_of_some {o : Operand} {s : State} {ea : Word} (h : o.address? s = some ea)
    (events : Word → List BusEvent) : s.atAddress o events = events ea := by
  simp [State.atAddress, h]

theorem accountFor_readAtAddress (s : State) (o : Operand) :
    AccountFor (s.atAddress o fun ea => [s.readEvent ea]) s.mem s.mem := by
  cases h : o.address? s <;> simp [State.atAddress, h]

theorem accountFor_shift {i : Instr} (hm : i.mnemonic ∈ [Mnemonic.ASL, .LSR, .ROL, .ROR]) (s : State) (f : ShiftOp) :
    AccountFor (s.modifyEvents i.operand fun v => (f v s.p.c).result) s.mem (s.shift i.operand f).mem := by
  by_cases h : i.form = .ACC
  · simp [State.modifyEvents_of_acc h, State.shift_of_acc h]
  · have hea := Instr.address?_of_writer (List.mem_append_right [.STA, .STX, .STY, .INC, .DEC] hm) h s
    simp [State.modifyEvents, State.atAddress_of_some hea, State.shift_of_not_acc h]

/-- Mnemonic by mnemonic, the data accesses account for what the instruction does to memory. -/
theorem accountFor_dataEvents (i : Instr) (s : State) :
    AccountFor (s.dataEvents i) s.mem (effect i.mnemonic i.operand s).mem := by
  unfold State.dataEvents
  cases hm : i.mnemonic
  case LDA | LDX | LDY | ADC | SBC | AND | ORA | EOR | BIT | CMP | CPX | CPY =>
    simpa [effect] using accountFor_readAtAddress s i.operand
  case STA | STX | STY | INC | DEC =>
    have hacc : i.form ≠ .ACC := fun h => by simpa [hm] using Instr.mnemonic_of_form_acc h
    have hea := Instr.address?_of_writer (by simp [hm]) hacc s
    simp [State.modifyEvents, State.atAddress_of_some hea, effect]
  case ASL | LSR | ROL | ROR => exact accountFor_shift (by simp [hm]) s _
  case JSR =>
    cases h : s.cfg.linkage
    · simp [effect, State.callSubroutine_halting h]
    · simp [effect, State.callSubroutine_hardware h]
  case RTS => cases h : s.cfg.linkage <;> simp [effect]
  all_goals simp [effect]

/-! ## The whole step -/

theorem State.stepTrace_of_halted {s : State} (h : s.halted = true) : s.stepTrace = [] := by
  simp [State.stepTrace, h]

theorem State.fetchInstr_of_unknown {s : State} (hl : lookup (s.readByte s.pc) = none) :
    s.fetchInstr = .unknown (s.readByte s.pc) s.pc (s.setPc (s.pc + 1)) := by
  simp [State.fetchInstr_eq, hl]

theorem State.stepTrace_of_unknown {s : State} (hh : s.halted = false) (hl : lookup (s.readByte s.pc) = none) :
    s.stepTrace = s.fetchEvents 1 := by
  simp [State.stepTrace, hh, State.fetchInstr_of_unknown hl]

theorem State.stepTrace_of_fetch {s s1 : State} {i : Instr} (hh : s.halted = false) (hf : s.fetchInstr = .decoded i s1) :
    s.stepTrace = s.fetchEvents i.length ++ s1.pointerEvents i.operand ++ s1.dataEvents i := by
  simp [State.stepTrace, hh, hf]

theorem accountFor_stepTrace {s t : State} (h : step s = .next t) : AccountFor s.stepTrace s.mem t.mem := by
  obtain ⟨hh, rfl⟩ | ⟨hh, hl, rfl⟩ | ⟨hh, i, s1, hf, he⟩ := step_cases h
  · simp [State.stepTrace_of_halted hh]
  · rw [State.stepTrace_of_unknown hh hl]
    exact accountFor_fetchEvents s 1
  · have hmem : s1.mem = s.mem := by rw [State.fetchInstr_decoded hf, State.setPc_mem]
    have hpointer := accountFor_pointerEvents s1 i.operand
    have hdata := accountFor_dataEvents i s1
    rw [hmem] at hpointer hdata
    rw [State.stepTrace_of_fetch hh hf, eq_effect_of_exec he]
    exact ((accountFor_fetchEvents s i.length).append hpointer).append hdata

/-- Settles O20: the access list accounts for the memory of the step, whichever of the three ways the step goes. -/
theorem stepTraceIsTheMemoryEffect : Obligations.StepTraceIsTheMemoryEffect :=
  fun _ _ => accountFor_stepTrace

end Sys2Proof.Machine
end

section
/-! Which accesses a step makes (R59, R124): the addresses of each part of the access list, as the statement computes them on
numbers. -/
namespace Sys2Proof.Machine
open Sys2Proof.Claims

@[simp] theorem accesses_append (es fs : List BusEvent) : accesses (es ++ fs) = accesses es ++ accesses fs :=
  List.map_append

@[simp] theorem accesses_nil : accesses [] = [] := rfl

@[simp] theorem accesses_readEvent (s : State) (a : Word) (es : List BusEvent) :
    accesses (s.readEvent a :: es) = .reads a :: accesses es := rfl

@[simp] theorem accesses_write (a : Word) (v : Byte) (es : List BusEvent) :
    accesses (.write a v :: es) = .writes a :: accesses es := rfl

/-! ## Addresses as words and as numbers -/

theorem add_ofNat_eq_addr (a : Word) (n : Nat) : a + BitVec.ofNat 16 n = addr (a.toNat + n) := by
  simp [addr, BitVec.ofNat_add]

theorem zext16_eq_addr (p : Byte) : zext16 p = addr p.toNat := by
  apply BitVec.eq_of_toNat_eq
  rw [toNat_zext16, addr, BitVec.toNat_ofNat, Nat.mod_eq_of_lt (by omega)]

theorem zpPtrHigh_eq_addr (p : Byte) (s : State) : zpPtrHigh p s = addr (pointerHighAt p.toNat s.cfg.zpPtrWrap) := by
  unfold zpPtrHigh pointerHighAt
  by_cases hp : p = 0xFF#8
  · subst hp
    cases s.cfg.zpPtrWrap <;> rfl
  · have hlt : p.toNat < 255 := by bv_omega
    have hmod : (p.toNat + 1) % 256 = p.toNat + 1 := by omega
    rw [if_neg hp, hmod, ite_self, zext16_eq_addr]
    exact (BitVec.ofNat_add _ _).symm

theorem stackAddr_eq_stackAt (sp : Byte) : stackAddr sp = stackAt sp.toNat := by
  apply BitVec.eq_of_toNat_eq
  simp [toNat_stackAddr, stackAt, addr]
  omega

/-- SP moves modulo 256 (R120, R121), as the statement's stack addresses do. -/
theorem stackAddr_add_ofNat (sp : Byte) (n : Nat) : stackAddr (sp + BitVec.ofNat 8 n) = stackAt (sp.toNat + n) := by
  simp [stackAddr_eq_stackAt, stackAt]

theorem stackAddr_sub_one (sp : Byte) : stackAddr (sp - 1#8) = stackAt (sp.toNat + 255) := by
  have h : sp - 1#8 = sp + BitVec.ofNat 8 255 := by bv_omega
  rw [h, stackAddr_add_ofNat]

/-! ## The parts of the list -/

theorem accesses_fetchEvents (s : State) (n : Nat) :
    accesses (s.fetchEvents n) = (List.range n).map fun k => Access.reads (addr (s.pc.toNat + k)) := by
  simp only [accesses, State.fetchEvents, List.map_map, Function.comp_def, ← add_ofNat_eq_addr]
  rfl

theorem accesses_zpPtrEvents (s : State) (p : Byte) :
    accesses (s.zpPtrEvents p) =
      [.reads (addr p.toNat), .reads (addr (pointerHighAt p.toNat s.cfg.zpPtrWrap))] := by
  simp [State.zpPtrEvents, zext16_eq_addr, zpPtrHigh_eq_addr]

theorem accesses_pointerEvents (s : State) (o : Operand) : accesses (s.pointerEvents o) = pointerAccesses s o := by
  cases o
  case ind w => simp [State.pointerEvents, pointerAccesses, ← add_ofNat_eq_addr]
  case izx b => exact accesses_zpPtrEvents s (b + s.x)
  case izy b => exact accesses_zpPtrEvents s b
  all_goals rfl

theorem accesses_readAtAddress (s : State) (o : Operand) :
    accesses (s.atAddress o fun ea => [s.readEvent ea]) = (o.address? s).toList.map Access.reads := by
  cases h : o.address? s <;> simp [State.atAddress, h]

theorem accesses_writeAtAddress (s : State) (o : Operand) (v : Byte) :
    accesses (s.atAddress o fun ea => [.write ea v]) = (o.address? s).toList.map Access.writes := by
  cases h : o.address? s <;> simp [State.atAddress, h]

theorem accesses_modifyEvents (s : State) (o : Operand) (f : Byte → Byte) :
    accesses (s.modifyEvents o f) =
      (o.address? s).toList.map Access.reads ++ (o.address? s).toList.map Access.writes := by
  cases h : o.address? s <;> simp [State.modifyEvents, State.atAddress, h]

/-- Mnemonic by mnemonic, the data accesses are those of the class table of R59. -/
theorem accesses_dataEvents (s : State) (i : Instr) : accesses (s.dataEvents i) = dataAccesses s i := by
  have hstack := stackAddr_add_ofNat s.sp
  unfold State.dataEvents dataAccesses
  cases i.mnemonic
  case LDA | LDX | LDY | ADC | SBC | AND | ORA | EOR | BIT | CMP | CPX | CPY => exact accesses_readAtAddress s i.operand
  case STA | STX | STY => exact accesses_writeAtAddress s i.operand _
  case INC | DEC | ASL | LSR | ROL | ROR => exact accesses_modifyEvents s i.operand _
  case PHA | PHP => simp [stackAddr_eq_stackAt s.sp]
  case PLA | PLP | RTI => simp [hstack]
  case JSR => cases s.cfg.linkage <;> simp [stackAddr_eq_stackAt s.sp, stackAddr_sub_one]
  case RTS => cases s.cfg.linkage <;> simp [hstack]
  all_goals rfl

/-! ## The whole step: no address depends on PC, which the fetch has moved -/

@[simp] theorem pointerAccesses_setPc (s : State) (pc : Word) (o : Operand) :
    pointerAccesses (s.setPc pc) o = pointerAccesses s o := rfl

@[simp] theorem dataAccesses_setPc (s : State) (pc : Word) (i : Instr) :
    dataAccesses (s.setPc pc) i = dataAccesses s i := by
  have hea : ea? i (s.setPc pc) = ea? i s := Operand.address?_setPc _ _ _
  unfold dataAccesses
  rw [hea]
  rfl

/-- Settles O21: the fetch finds the decoded instruction, and each part of its access list has the stated addresses. -/
theorem stepMakesTheListedAccesses : Obligations.StepMakesTheListedAccesses := by
  intro s i rest hh hd
  rw [State.stepTrace_of_fetch hh (State.fetchInstr_of_decode hd), accesses_append, accesses_append, accesses_fetchEvents,
    accesses_pointerEvents, accesses_dataEvents, pointerAccesses_setPc, dataAccesses_setPc]

end Sys2Proof.Machine
end

section
/-! A store is seen by the next fetch (R66). -/
namespace Sys2Proof.Machine
open Sys2Proof.Claims

/-- The bytes of R88's list have no row in the opcode table. -/
theorem lookup_of_unknown {op : Byte} (h : op.toNat ∈ unknownBytes) : lookup op = none := by
  have hall : ∀ n ∈ unknownBytes, lookup (BitVec.ofNat 8 n) = none := by decide
  simpa using hall _ h

theorem step_of_unknown {s : State} (hh : s.halted = false) (hl : lookup (s.readByte s.pc) = none) :
    step s = .next ((s.setPc (s.pc + 1)).raiseUnknownOpcode (s.readByte s.pc) s.pc) := by
  simp [step, hh, State.fetchInstr_of_unknown hl]

theorem step_nop {s : State} (hh : s.halted = false) (hop : s.readByte s.pc = 0xEA#8) :
    step s = .next (s.setPc (s.pc + 1)) := by
  have hf : s.fetchInstr = .decoded .nop (s.setPc (s.pc + 1)) := by
    rw [State.fetchInstr_eq, hop]
    rfl
  exact step_of_fetch hh hf

theorem step_staAbs {s : State} {w : Word} (hh : s.halted = false) (hb : s.bytesAtPc = [0x8D#8, loByte w, hiByte w]) :
    step s = .next ((s.setPc (s.pc + 3)).writeByte w s.a) := by
  have hd : decode s.bytesAtPc = .ok (.staAbs (mkWord (hiByte w) (loByte w)), []) := by
    rw [hb]
    rfl
  rw [mkWord_hiByte_loByte] at hd
  exact step_of_fetch hh (State.fetchInstr_of_decode hd)

/-- Settles O22: the store leaves A at the new PC, and the step from there is decided by that byte. -/
theorem storeIsSeenByTheNextFetch : Obligations.StoreIsSeenByTheNextFetch := by
  intro s hh hb
  have hsta := step_staAbs hh hb
  have hbytes := State.writeByte_onlyByteAt (s.setPc (s.pc + 3)) (s.pc + 3) s.a
  have hpc : ((s.setPc (s.pc + 3)).writeByte (s.pc + 3) s.a).pc = s.pc + 3 := rfl
  have hrun : ((s.setPc (s.pc + 3)).writeByte (s.pc + 3) s.a).halted = false := hh
  generalize (s.setPc (s.pc + 3)).writeByte (s.pc + 3) s.a = t at *
  have hop : t.readByte t.pc = s.a := by rw [hpc, hbytes.1]
  refine ⟨t, hsta, hpc, hbytes, fun hunknown => ?_, fun hnop => ?_⟩
  · have hl : lookup (t.readByte t.pc) = none := by rw [hop, lookup_of_unknown hunknown]
    refine ⟨_, step_of_unknown hrun hl, ?_⟩
    rw [State.raiseUnknownOpcode_fault, hop, hpc]
  · have hnext : t.pc + 1 = s.pc + 4 := by rw [hpc, BitVec.add_assoc]; rfl
    rw [step_nop hrun (hop.trans hnop), hnext]
    rfl

end Sys2Proof.Machine
end

section
/-! The decoder and the encoder are inverse (R80 to R90): both are tied to one relation, which bytes a row's assembly turns
into which instruction. -/
namespace Sys2Proof
open Sys2Proof.Machine Sys2Proof.Claims

/-! ## A row's assembly as a relation between operand bytes and instructions -/

/-- The assembly makes the instruction of the operand bytes, a word's low byte first (R55, R82). -/
inductive Assembly.Makes : Assembly → List Byte → Instr → Prop
  | noOperand (i : Instr) : Makes (.noOperand i) [] i
  | byteOperand (make : Byte → Instr) (b : Byte) : Makes (.byteOperand make) [b] (make b)
  | wordOperand (make : Word → Instr) (lo hi : Byte) : Makes (.wordOperand make) [lo, hi] (make (mkWord hi lo))

theorem Assembly.makes_of_word (make : Word → Instr) (w : Word) :
    (Assembly.wordOperand make).Makes [loByte w, hiByte w] (make w) := by
  simpa using Makes.wordOperand make (loByte w) (hiByte w)

/-- What a row of the table makes is encoded as the row's opcode byte and the operand bytes it was made of. -/
theorem encode_of_makes {r : Row} (hr : r ∈ opcodeTable) {operand : List Byte} {i : Instr}
    (h : r.assembly.Makes operand i) : encode i = r.descriptor.opcode :: operand := by
  have henc := opcodeTable_encodes r hr
  obtain ⟨d, assembly⟩ := r
  cases h with
  | noOperand => exact henc
  | byteOperand make b => exact henc b
  | wordOperand make lo hi => simpa using henc (mkWord hi lo)

/-- Every instruction is made by the row of its opcode byte, of its own operand bytes (R82, R86). -/
theorem lookup_opcode_makes (i : Instr) :
    ∃ r, lookup i.opcode = some r ∧ r.assembly.Makes i.operand.bytes i := by
  cases i <;> dsimp only [Instr.opcode] <;> refine ⟨_, rfl, ?_⟩
  case aslAcc | brk | clc | cld | cli | clv | dex | dey | inx | iny | lsrAcc | nop | pha | php | pla | plp | rolAcc |
      rorAcc | rti | rts | sec | sed | sei | tax | tay | tsx | txa | txs | tya =>
    exact .noOperand _
  case adcAbs | adcAbx | adcAby | andAbs | andAbx | andAby | aslAbs | aslAbx | bitAbs | cmpAbs | cmpAbx | cmpAby | cpxAbs |
      cpyAbs | decAbs | decAbx | eorAbs | eorAbx | eorAby | incAbs | incAbx | jmpAbs | jmpInd | jsrAbs | ldaAbs | ldaAbx |
      ldaAby | ldxAbs | ldxAby | ldyAbs | ldyAbx | lsrAbs | lsrAbx | oraAbs | oraAbx | oraAby | rolAbs | rolAbx | rorAbs |
      rorAbx | sbcAbs | sbcAbx | sbcAby | staAbs | staAbx | staAby | stxAbs | styAbs =>
    exact Assembly.makes_of_word _ _
  all_goals exact .byteOperand _ _

/-! ## Decoding, read off the relation -/

theorem decode_of_makes {op : Byte} {r : Row} {operand : List Byte} {i : Instr} (hl : lookup op = some r)
    (h : r.assembly.Makes operand i) (rest : List Byte) : decode (op :: operand ++ rest) = .ok (i, rest) := by
  obtain ⟨d, assembly⟩ := r
  cases h <;> simp [decode, hl]

theorem makes_of_decode {op : Byte} {bytes rest : List Byte} {i : Instr} (h : decode (op :: bytes) = .ok (i, rest)) :
    ∃ r operand, lookup op = some r ∧ r.assembly.Makes operand i ∧ bytes = operand ++ rest := by
  cases hl : lookup op with
  | none => simp [decode_unknown bytes hl] at h
  | some r =>
    obtain ⟨d, assembly⟩ := r
    simp only [decode, hl] at h
    split at h <;> cases h
    · exact ⟨_, _, rfl, .noOperand _, rfl⟩
    · exact ⟨_, _, rfl, .byteOperand _ _, rfl⟩
    · exact ⟨_, _, rfl, .wordOperand _ _ _, rfl⟩

theorem decode_encode (i : Instr) (rest : List Byte) : decode (encode i ++ rest) = .ok (i, rest) := by
  obtain ⟨r, hl, hmakes⟩ := lookup_opcode_makes i
  exact decode_of_makes hl hmakes rest

theorem eq_encode_of_decode {bytes rest : List Byte} {i : Instr} (h : decode bytes = .ok (i, rest)) :
    bytes = encode i ++ rest := by
  cases bytes with
  | nil => cases h
  | cons op bytes =>
    obtain ⟨r, operand, hl, hmakes, rfl⟩ := makes_of_decode h
    rw [encode_of_makes (lookup_mem hl) hmakes, lookup_opcode hl, List.cons_append]

/-- Decoding the common bytes gives both instructions back. -/
theorem encode_append_inj {i j : Instr} {r q : List Byte} (h : encode i ++ r = encode j ++ q) : i = j ∧ r = q := by
  have hdecode : Except.ok (i, r) = Except.ok (ε := DecodeReject) (j, q) := by
    rw [← decode_encode i r, h, decode_encode j q]
  cases hdecode
  exact ⟨rfl, rfl⟩

/-- Settles O8: the row of the opcode byte makes the instruction of its operand bytes. -/
theorem decodeInvertsEncode : Obligations.DecodeInvertsEncode :=
  ⟨Instr.wf_eq_true, fun i rest _ => decode_encode i rest⟩

/-- Settles O9: the row that decoding finds encodes what it makes, and an encoding decodes to one instruction only. -/
theorem encodeInvertsDecode : Obligations.EncodeInvertsDecode :=
  ⟨fun _ _ _ => eq_encode_of_decode, fun _ _ _ _ => encode_append_inj⟩

end Sys2Proof
end

section
/-! Which bytes have a descriptor (R88), and how many bytes an instruction has (R81). -/
namespace Sys2Proof
open Sys2Proof.Machine Sys2Proof.Claims

/-- The other 151 bytes have a row (R86): together with `lookup_of_unknown`, the list of R88 is exact. -/
theorem lookup_isSome_of_not_unknown : ∀ op : Byte, op.toNat ∉ unknownBytes → (lookup op).isSome = true := by
  decide +kernel

theorem lookup_eq_none_iff (op : Byte) : lookup op = none ↔ op.toNat ∈ unknownBytes := by
  refine ⟨fun hnone => ?_, lookup_of_unknown⟩
  by_contra hmem
  have hsome := lookup_isSome_of_not_unknown op hmem
  simp [hnone] at hsome

/-- Settles O10: decoding rejects a byte when the lookup finds no row for it, which is so for the listed bytes alone. -/
theorem unknownOpcodesAreTheListedBytes : Obligations.UnknownOpcodesAreTheListedBytes := by
  refine ⟨rfl, fun op rest => ⟨?_, fun hmem => ?_⟩⟩
  · rw [decode_eq_unknown_iff, lookup_eq_none_iff]
  · obtain ⟨r, hr⟩ := Option.isSome_iff_exists.mp (lookup_isSome_of_not_unknown op hmem)
    exact ⟨r, hr, lookup_opcode hr⟩

theorem Operand.length_bytes (o : Operand) : o.bytes.length + 1 = o.form.length := by
  cases o <;> rfl

theorem length_encode (i : Instr) : (encode i).length = i.length :=
  i.operand.length_bytes

/-- Settles O11: the operand's form decides how many bytes follow the opcode byte. -/
theorem lengthIsDecidedByTheForm : Obligations.LengthIsDecidedByTheForm := by
  intro i
  refine ⟨length_encode i, ?_⟩
  unfold Instr.length
  cases i.form <;> decide

/-- Settles O12: each word is looked up in the table and its row put together. -/
theorem sampleWordsDecode : Obligations.SampleWordsDecode := by
  unfold Obligations.SampleWordsDecode
  decide

end Sys2Proof
end

section
/-! The operand forms resolved (R104 to R117), their addresses computed on numbers as the statements give them. -/
namespace Sys2Proof.Machine
open Sys2Proof.Claims

/-- A zero-page address with an index wraps inside the zero page (R108, R109, R114). -/
theorem zext16_add_eq_addr (b index : Byte) : zext16 (b + index) = addr ((b.toNat + index.toNat) % 256) :=
  zext16_eq_addr (b + index)

/-- A word with an unsigned index wraps modulo 65536 (R111, R112, R115). -/
theorem add_zext16_eq_addr (w : Word) (index : Byte) :
    w + zext16 index = addr ((w.toNat + index.toNat) % 65536) := by
  apply BitVec.eq_of_toNat_eq
  simp [addr]

theorem toNat_zext16_lt (v : Byte) : (zext16 v).toNat < 256 := by
  rw [toNat_zext16]
  exact v.isLt

/-- Settles O29: each address is a byte extended to a word, the index added to the byte before. -/
theorem zeroPageFormsResolve : Obligations.ZeroPageFormsResolve := by
  intro s b
  refine ⟨congrArg some (zext16_eq_addr b), congrArg some (zext16_add_eq_addr b s.x),
    congrArg some (zext16_add_eq_addr b s.y), ?_⟩
  simp only [List.forall_mem_cons]
  refine ⟨?_, ?_, ?_, fun _ hnil => nomatch hnil⟩ <;> rintro _ ⟨⟩ <;> exact toNat_zext16_lt _

/-- Settles O30: the index is added to the operand word, as a word. -/
theorem absoluteFormsResolve : Obligations.AbsoluteFormsResolve := fun s w =>
  ⟨rfl, congrArg some (add_zext16_eq_addr w s.x), congrArg some (add_zext16_eq_addr w s.y)⟩

/-- Settles O31: the sign extension adds 0xFF00 to an offset of 128 or more, which is 256 less modulo 65536. -/
theorem relativeFormResolves : Obligations.RelativeFormResolves := by
  intro s b
  have htarget : (relTarget b s).toNat = (s.pc.toNat + (sext16 b).toNat) % 65536 := BitVec.toNat_add s.pc (sext16 b)
  have hb := b.isLt
  rw [htarget, toNat_sext16]
  by_cases hneg : b.toNat < 128
  · simp only [hneg, if_true]
    omega
  · simp only [hneg, if_false]
    omega

theorem toNat_zpPtr (p : Byte) (s : State) : (zpPtr p s).toNat = pointerAt s p.toNat := by
  rw [zpPtr, toNat_mkWord, zpPtrHigh_eq_addr, zext16_eq_addr, Nat.add_comm]
  rfl

theorem zpPtr_eq_addr (p : Byte) (s : State) : zpPtr p s = addr (pointerAt s p.toNat) := by
  simp [addr, ← toNat_zpPtr]

theorem eaIzy_eq_addr (b : Byte) (s : State) : eaIzy b s = addr ((pointerAt s b.toNat + s.y.toNat) % 65536) := by
  rw [eaIzy, add_zext16_eq_addr, toNat_zpPtr]

/-- Settles O33: the pointer read is the statement's, for the pointer byte after the X index and before the Y index. -/
theorem pointerFormsResolve : Obligations.PointerFormsResolve := fun s b =>
  ⟨congrArg some (zpPtr_eq_addr (b + s.x) s), congrArg some (eaIzy_eq_addr b s)⟩

end Sys2Proof.Machine

namespace Sys2Proof
open Sys2Proof.Machine

theorem Operand.value?_eq_map_address? {o : Operand} (h : o.form ≠ .IMM) (s : State) :
    o.value? s = (o.address? s).map s.readByte := by
  cases o
  case imm => exact absurd rfl h
  all_goals rfl

theorem Operand.address?_eq_none_iff (o : Operand) (s : State) :
    o.address? s = none ↔ o.form ∈ [Form.IMP, .ACC, .IMM, .REL] := by
  constructor
  · intro hnone
    by_contra hform
    simp [Operand.address?_eq_some hform s] at hnone
  · intro hform
    cases o
    case imp | acc | imm | rel => rfl
    all_goals simp [Operand.form] at hform

/-- Settles O32: the value is defined with the address, form by form. -/
theorem operandValueIsTheByteAtTheAddress : Obligations.OperandValueIsTheByteAtTheAddress := by
  refine fun o s => ⟨?_, (Operand.value?_eq_map_address? · s), (o.address?_eq_none_iff s).symm⟩
  rintro m rfl
  exact ⟨rfl, rfl⟩

end Sys2Proof
end

section
/-! The parameters of R6: no instruction writes them or the record, ZP_PTR_WRAP is read only for a pointer at 0xFF (R114), and
LINKAGE only by call and return (R200). -/
namespace Sys2Proof.Machine

/-! ## The record and the parameters are kept -/

theorem State.branch_fault_cfg (s : State) (cond : Bool) (b : Byte) :
    (s.branch cond b).fault = s.fault ∧ (s.branch cond b).cfg = s.cfg := by
  cases cond <;> exact ⟨rfl, rfl⟩

theorem State.callSubroutine_fault_cfg (s : State) (ea : Word) :
    (s.callSubroutine ea).fault = s.fault ∧ (s.callSubroutine ea).cfg = s.cfg := by
  cases h : s.cfg.linkage
  · simp [State.callSubroutine_halting h]
  · simp [State.callSubroutine_hardware h]

theorem State.returnFromSubroutine_fault_cfg (s : State) :
    s.returnFromSubroutine.fault = s.fault ∧ s.returnFromSubroutine.cfg = s.cfg := by
  cases h : s.cfg.linkage
  · simp [State.returnFromSubroutine_halting h]
  · simp [State.returnFromSubroutine_hardware h]

theorem State.shift_fault_cfg (s : State) (o : Operand) (f : ShiftOp) :
    (s.shift o f).fault = s.fault ∧ (s.shift o f).cfg = s.cfg := by
  by_cases h : o.form = .ACC
  · rw [State.shift_of_acc h]; exact ⟨rfl, rfl⟩
  · rw [State.shift_of_not_acc h]; exact ⟨rfl, rfl⟩

theorem effect_fault_cfg (m : Mnemonic) (o : Operand) (s : State) :
    (effect m o s).fault = s.fault ∧ (effect m o s).cfg = s.cfg := by
  cases m
  case BCC | BCS | BEQ | BNE | BMI | BPL | BVC | BVS => exact s.branch_fault_cfg _ _
  case JSR => exact s.callSubroutine_fault_cfg _
  case RTS => exact s.returnFromSubroutine_fault_cfg
  case ASL | LSR | ROL | ROR => exact s.shift_fault_cfg o _
  all_goals exact ⟨rfl, rfl⟩

/-! ## The same operation under other parameters -/

/-- The state under other values of the parameters. -/
def State.withCfg (s : State) (c : Config) : State := { s with cfg := c }

theorem State.branch_withCfg (s : State) (c : Config) (cond : Bool) (b : Byte) :
    (s.withCfg c).branch cond b = (s.branch cond b).withCfg c := by
  cases cond <;> rfl

section
variable {s : State} {c : Config}

theorem State.callSubroutine_withCfg (hc : c.linkage = s.cfg.linkage) (ea : Word) :
    (s.withCfg c).callSubroutine ea = (s.callSubroutine ea).withCfg c := by
  cases h : s.cfg.linkage
  · rw [State.callSubroutine_halting h, State.callSubroutine_halting (s := s.withCfg c) (hc.trans h)]; rfl
  · rw [State.callSubroutine_hardware h, State.callSubroutine_hardware (s := s.withCfg c) (hc.trans h)]; rfl

theorem State.returnFromSubroutine_withCfg (hc : c.linkage = s.cfg.linkage) :
    (s.withCfg c).returnFromSubroutine = s.returnFromSubroutine.withCfg c := by
  cases h : s.cfg.linkage
  · rw [State.returnFromSubroutine_halting h, State.returnFromSubroutine_halting (s := s.withCfg c) (hc.trans h)]; rfl
  · rw [State.returnFromSubroutine_hardware h, State.returnFromSubroutine_hardware (s := s.withCfg c) (hc.trans h)]; rfl

/-- The operand value is read at the address (R117), so it is the same where the address is. -/
theorem operandValue_withCfg {o : Operand} (ha : o.address? (s.withCfg c) = o.address? s) :
    o.value (s.withCfg c) = o.value s := by
  cases o
  case imm => rfl
  all_goals exact congrArg (fun ea? => (ea?.map s.readByte).getD 0#8) ha

theorem operandAddress_withCfg {o : Operand} (ha : o.address? (s.withCfg c) = o.address? s) :
    o.address (s.withCfg c) = o.address s :=
  congrArg (·.getD 0#16) ha

theorem State.shift_withCfg {o : Operand} (ha : o.address? (s.withCfg c) = o.address? s) (f : ShiftOp) :
    (s.withCfg c).shift o f = (s.shift o f).withCfg c := by
  by_cases h : o.form = .ACC
  · rw [State.shift_of_acc h, State.shift_of_acc h]; rfl
  · rw [State.shift_of_not_acc h, State.shift_of_not_acc h, operandAddress_withCfg ha]; rfl

/-- An instruction whose operand resolves to the same address does the same under other parameters, call and return provided
that LINKAGE is the same. -/
theorem effect_withCfg {m : Mnemonic} {o : Operand} (hc : m ∈ [Mnemonic.JSR, .RTS] → c.linkage = s.cfg.linkage)
    (ha : o.address? (s.withCfg c) = o.address? s) : effect m o (s.withCfg c) = (effect m o s).withCfg c := by
  have hvalue := operandValue_withCfg ha
  have haddress := operandAddress_withCfg ha
  cases m
  case BCC | BCS | BEQ | BNE | BMI | BPL | BVC | BVS => exact s.branch_withCfg c _ _
  case JSR => simp only [effect, haddress, State.callSubroutine_withCfg (hc (by simp))]
  case RTS => exact State.returnFromSubroutine_withCfg (hc (by simp))
  case ASL | LSR | ROL | ROR => exact State.shift_withCfg ha _
  case NOP => rfl
  all_goals simp only [effect, hvalue, haddress]; rfl

theorem exec_withCfg {i : Instr} {t : State} (hc : i.mnemonic ∈ [Mnemonic.JSR, .RTS] → c.linkage = s.cfg.linkage)
    (ha : i.operand.address? (s.withCfg c) = i.operand.address? s) (h : exec i s = .next t) :
    exec i (s.withCfg c) = .next (t.withCfg c) := by
  rw [exec_eq_effect, effect_withCfg hc ha, eq_effect_of_exec h]

theorem exec_cfg {i : Instr} {t : State} (h : exec i s = .next t) : t.cfg = s.cfg := by
  rw [eq_effect_of_exec h]
  exact (effect_fault_cfg i.mnemonic i.operand s).2

/-! ## ZP_PTR_WRAP is read only for a pointer at 0xFF -/

theorem zpPtrHigh_withCfg {p : Byte} (hp : p ≠ 0xFF#8) : zpPtrHigh p (s.withCfg c) = zpPtrHigh p s := by
  simp [zpPtrHigh, hp]

theorem zpPtr_withCfg {p : Byte} (hp : p ≠ 0xFF#8) : zpPtr p (s.withCfg c) = zpPtr p s := by
  unfold zpPtr
  rw [zpPtrHigh_withCfg hp]
  rfl

theorem operandAddress?_withCfg {o : Operand} (hx : ∀ b, o = .izx b → b + s.x ≠ 0xFF#8)
    (hy : ∀ b, o = .izy b → b ≠ 0xFF#8) :
    o.address? (s.withCfg c) = o.address? s := by
  cases o
  case izx b => exact congrArg some (zpPtr_withCfg (hx b rfl))
  case izy b => exact congrArg (fun p => some (p + zext16 s.y)) (zpPtr_withCfg (hy b rfl))
  all_goals rfl

end

theorem ne_0xFF_of_toNat_ne {p : Byte} (h : p.toNat ≠ 0xFF) : p ≠ 0xFF#8 := fun hp => h (congrArg BitVec.toNat hp)

/-- Settles O28: with no pointer at 0xFF the operand has the same address, so the instruction does the same. -/
theorem pointerWrapMattersOnlyAtFF : Obligations.PointerWrapMattersOnlyAtFF := by
  intro i s t w hx hy h
  have haddress : i.operand.address? (s.withCfg { s.cfg with zpPtrWrap := w }) = i.operand.address? s :=
    operandAddress?_withCfg (fun b hb => ne_0xFF_of_toNat_ne (hx b hb)) (fun b hb => ne_0xFF_of_toNat_ne (hy b hb))
  rw [exec_cfg h]
  exact exec_withCfg (fun _ => rfl) haddress h

end Sys2Proof.Machine
end

section
/-! Where a step goes (R100), and that every step and every run of steps completes (R102). -/
namespace Sys2Proof
open Sys2Proof.Machine

/-- Only the byte at PC is ever rejected as unknown, and only for want of a row (R88). -/
theorem unknown_of_decode {op op' : Byte} {rest : List Byte} (h : decode (op :: rest) = .error (.unknownOpcode op')) :
    op' = op ∧ lookup op = none := by
  cases hl : lookup op with
  | none =>
    rw [decode_unknown rest hl] at h
    cases h
    exact ⟨rfl, rfl⟩
  | some r =>
    simp only [decode, hl] at h
    split at h <;> cases h

end Sys2Proof

namespace Sys2Proof.Machine

/-- Settles O13: the three ways of a step, the bytes at PC decoded as the fetch decodes them. -/
theorem stepRunsTheDecodedInstruction : Obligations.StepRunsTheDecodedInstruction := by
  refine fun s => ⟨step_halted, fun hh op hd => ?_, fun hh i rest hd => ?_⟩
  · obtain ⟨rfl, hl⟩ := unknown_of_decode hd
    exact ⟨rfl, step_of_unknown hh hl⟩
  · exact step_of_fetch hh (State.fetchInstr_of_decode hd)

theorem step_completes (s : State) : stepCompletes s := by
  cases hh : s.halted with
  | true => exact ⟨s, step_halted hh⟩
  | false =>
    cases hf : s.fetchInstr with
    | unknown op a0 s1 =>
      obtain ⟨hl, rfl, -, -⟩ := State.fetchInstr_unknown hf
      exact ⟨_, step_of_unknown hh hl⟩
    | decoded i s1 => exact ⟨_, (step_of_fetch hh hf).trans (exec_eq_effect i s1)⟩

/-- A run goes on from where its first step ends. -/
theorem run_succ {s t : State} (h : step s = .next t) (k : Nat) :
    Host.Core.run Sys2Proof.core (k + 1) s = Host.Core.run Sys2Proof.core k t := by
  have hstep : Sys2Proof.core.step s = .next t := h
  simp only [Host.Core.run, hstep]

theorem run_completes (s : State) (k : Nat) : ∃ t, Host.Core.run Sys2Proof.core k s = .next t := by
  induction k generalizing s with
  | zero => exact ⟨s, rfl⟩
  | succ k ih =>
    obtain ⟨t, ht⟩ := step_completes s
    rw [run_succ ht]
    exact ih t

/-- Settles O17: every instruction has an effect and keeps the record, so every step completes, and so does every run. -/
theorem everyStepCompletes : Obligations.EveryStepCompletes := by
  refine ⟨fun i s => ⟨_, exec_eq_effect i s, ?_⟩, step_completes, run_completes⟩
  exact (effect_fault_cfg i.mnemonic i.operand s).1

end Sys2Proof.Machine
end

section
/-! Pushes and pulls (R120 to R123, R210 to R213): SP and the stack address computed on numbers as the statements give them. -/
namespace Sys2Proof.Machine
open Sys2Proof.Claims

theorem stackAddr_eq_addr (sp : Byte) : stackAddr sp = addr (256 + sp.toNat) := by
  rw [stackAddr_eq_stackAt, stackAt, Nat.mod_eq_of_lt sp.isLt]

theorem sub_one_eq_ofNat (sp : Byte) : sp - 1 = BitVec.ofNat 8 ((sp.toNat + 255) % 256) := by
  bv_omega

theorem add_one_eq_ofNat (sp : Byte) : sp + 1 = BitVec.ofNat 8 ((sp.toNat + 1) % 256) := by
  bv_omega

theorem stackAddr_add_one (sp : Byte) : stackAddr (sp + 1) = addr (256 + (sp.toNat + 1) % 256) :=
  stackAddr_eq_addr (sp + 1)

/-- The pushed status byte as a number (R27, R122): bits 4 and 5 are 1 whatever B holds. -/
theorem Flags.pushed_eq_ofNat (p : Flags) :
    p.pushed = BitVec.ofNat 8 (128 * p.n.toNat + 64 * p.v.toNat + 48 + 8 * p.d.toNat + 4 * p.i.toNat + 2 * p.z.toNat +
      p.c.toNat) := by
  obtain ⟨n, v, b, d, i, z, c⟩ := p
  revert n v b d i z c
  decide

theorem State.push_onlyByteAt (s : State) (v : Byte) : OnlyByteAt s (s.push v) (addr (256 + s.sp.toNat)) v := by
  rw [← stackAddr_eq_addr]
  exact ⟨s.push_readByte_same v, fun _ hne => s.push_readByte_other v hne⟩

theorem State.push_sameButMemory (s : State) (v : Byte) :
    SameButMemory (s.setSp (BitVec.ofNat 8 ((s.sp.toNat + 255) % 256))) (s.push v) := by
  rw [← sub_one_eq_ofNat]
  rfl

/-- Settles O54: both instructions are a push, PHP of the status byte that the statement computes. -/
theorem pushesStoreAndDecrement : Obligations.PushesStoreAndDecrement := by
  intro s
  refine ⟨⟨s.push s.a, rfl, s.push_onlyByteAt _, s.push_sameButMemory _⟩,
    ⟨s.push s.p.pushed, rfl, ?_, s.push_sameButMemory _⟩⟩
  rw [← Flags.pushed_eq_ofNat]
  exact s.push_onlyByteAt _

/-- PLA's effect (R212): a load of A from the pulled byte, and SP one higher. -/
theorem State.pullA_eq (s : State) : s.pullA = loadA (s.readByte (stackAddr (s.sp + 1))) (s.setSp (s.sp + 1)) := rfl

/-- Settles O55: both instructions read the byte above SP and leave SP there. -/
theorem pullsIncrementAndLoad : Obligations.PullsIncrementAndLoad := by
  intro s above v
  have hsp : s.sp + 1 = above := add_one_eq_ofNat s.sp
  have hv : s.readByte (stackAddr (s.sp + 1)) = v := congrArg s.readByte (stackAddr_add_one s.sp)
  have hpla : exec .pla s = .next s.pullA := rfl
  have hplp : exec .plp s = .next s.pullFlags := rfl
  rw [hpla, hplp, State.pullA_eq, State.pullFlags_eq, hv, hsp, withZN_eq_setZN]
  exact ⟨rfl, rfl⟩

end Sys2Proof.Machine
end

section
/-! Loads, stores and transfers (R130 to R141): a load's operand always has a value, a store's always an address, and a step at
an LDA opcode byte is the load of the value that its operand names. -/
namespace Sys2Proof
open Sys2Proof.Machine Sys2Proof.Claims

theorem Operand.value?_eq_some {o : Operand} (h : o.form ∉ [Form.IMP, .ACC, .REL]) (s : State) :
    o.value? s = some (o.value s) := by
  cases o
  case imp | acc | rel => simp [Operand.form] at h
  all_goals rfl

/-- The forms of the mnemonics that read an operand value M: all of them have one (R86, R117). -/
theorem Mnemonic.forms_of_reader :
    ∀ m ∈ [Mnemonic.LDA, .LDX, .LDY, .ADC, .SBC, .AND, .ORA, .EOR, .BIT, .CMP, .CPX, .CPY], ∀ f ∈ m.forms,
      f ∉ [Form.IMP, .ACC, .REL] := by
  decide

theorem Instr.m?_of_reader {i : Instr}
    (hm : i.mnemonic ∈ [Mnemonic.LDA, .LDX, .LDY, .ADC, .SBC, .AND, .ORA, .EOR, .BIT, .CMP, .CPX, .CPY]) (s : State) :
    m? i s = some (i.operand.value s) :=
  Operand.value?_eq_some (Mnemonic.forms_of_reader _ hm _ i.form_mem_forms) s

/-- No store has an accumulator form, so each has an address. -/
theorem Instr.ea?_of_store {i : Instr} (hm : i.mnemonic ∈ [Mnemonic.STA, .STX, .STY]) (s : State) :
    ea? i s = some (i.operand.address s) := by
  have hwriter : i.mnemonic ∈ [Mnemonic.STA, .STX, .STY, .INC, .DEC, .ASL, .LSR, .ROL, .ROR] :=
    List.mem_append_left [Mnemonic.INC, .DEC, .ASL, .LSR, .ROL, .ROR] hm
  have hnotShift : ∀ m ∈ [Mnemonic.STA, .STX, .STY], m ∉ [Mnemonic.ASL, .LSR, .ROL, .ROR] := by decide
  exact Instr.address?_of_writer hwriter (fun hacc => hnotShift _ hm (Instr.mnemonic_of_form_acc hacc)) s

@[simp] theorem Operand.value_setPc (o : Operand) (s : State) (pc : Word) : o.value (s.setPc pc) = o.value s := by
  cases o <;> rfl

end Sys2Proof

namespace Sys2Proof.Machine
open Sys2Proof.Claims

/-! ## What loads and stores make of a state -/

theorem loadA_eq (m : Byte) (s : State) : loadA m s = { s with a := m, p := withZN s.p m } := by
  rw [withZN_eq_setZN]
  rfl

theorem loadX_eq (m : Byte) (s : State) : loadX m s = { s with x := m, p := withZN s.p m } := by
  rw [withZN_eq_setZN]
  rfl

theorem loadY_eq (m : Byte) (s : State) : loadY m s = { s with y := m, p := withZN s.p m } := by
  rw [withZN_eq_setZN]
  rfl

theorem exec_of_mnemonic {i : Instr} {m : Mnemonic} (h : i.mnemonic = m) (s : State) :
    exec i s = .next (effect m i.operand s) := by
  rw [← h, exec_eq_effect]

theorem exec_lda {i : Instr} (h : i.mnemonic = .LDA) (s : State) :
    exec i s = .next { s with a := i.operand.value s, p := withZN s.p (i.operand.value s) } := by
  rw [← loadA_eq]
  exact exec_of_mnemonic h s

theorem exec_ldx {i : Instr} (h : i.mnemonic = .LDX) (s : State) :
    exec i s = .next { s with x := i.operand.value s, p := withZN s.p (i.operand.value s) } := by
  rw [← loadX_eq]
  exact exec_of_mnemonic h s

theorem exec_ldy {i : Instr} (h : i.mnemonic = .LDY) (s : State) :
    exec i s = .next { s with y := i.operand.value s, p := withZN s.p (i.operand.value s) } := by
  rw [← loadY_eq]
  exact exec_of_mnemonic h s

/-- Settles O35: M is the operand's value, and the mnemonic's effect is the load of it. -/
theorem loadsPutTheOperandInTheRegister : Obligations.LoadsPutTheOperandInTheRegister := fun _ s =>
  ⟨fun h => ⟨_, Instr.m?_of_reader (by simp [h]) s, exec_lda h s⟩,
    fun h => ⟨_, Instr.m?_of_reader (by simp [h]) s, exec_ldx h s⟩,
    fun h => ⟨_, Instr.m?_of_reader (by simp [h]) s, exec_ldy h s⟩⟩

/-- Settles O36: each store is a write of its register at the operand's address. -/
theorem storesWriteOneByte : Obligations.StoresWriteOneByte := by
  intro i s v h
  have hstore : i.mnemonic ∈ [Mnemonic.STA, .STX, .STY] := by
    rcases h with ⟨hm, -⟩ | ⟨hm, -⟩ | ⟨hm, -⟩ <;> simp [hm]
  refine ⟨_, _, Instr.ea?_of_store hstore s, ?_, s.writeByte_onlyByteAt _ v, s.writeByte_sameButMemory _ v⟩
  rcases h with ⟨hm, rfl⟩ | ⟨hm, rfl⟩ | ⟨hm, rfl⟩ <;> exact exec_of_mnemonic hm s

/-- Settles O37: a transfer but TXS is a load of the source register's byte; TXS is the write of SP alone. -/
theorem transfersCopyARegister : Obligations.TransfersCopyARegister := fun s =>
  ⟨congrArg Host.Outcome.next (loadX_eq s.a s), congrArg Host.Outcome.next (loadY_eq s.a s),
    congrArg Host.Outcome.next (loadA_eq s.x s), congrArg Host.Outcome.next (loadA_eq s.y s),
    congrArg Host.Outcome.next (loadX_eq s.sp s), rfl⟩

/-! ## A step from raw bytes -/

/-- The opcode byte and the operand bytes of an instruction lie at PC: so does its encoding (R80, R82). -/
theorem State.bytesAtPc_eq_encode {s : State} {i : Instr} {rest : List Byte}
    (hop : (s.readByte s.pc).toNat = i.opcode.toNat)
    (hoperand : [s.readByte (s.pc + 1), s.readByte (s.pc + 2)] = i.operand.bytes ++ rest) :
    s.bytesAtPc = encode i ++ rest := by
  rw [encode_eq_cons, List.cons_append, ← hoperand, ← BitVec.eq_of_toNat_eq hop]
  rfl

/-- A running core with an instruction's encoding at PC runs it from the PC past it (R25, R100). -/
theorem step_of_encode {s : State} {i : Instr} {rest : List Byte} (hh : s.halted = false)
    (hbytes : s.bytesAtPc = encode i ++ rest) :
    step s = exec i (s.setPc (s.pc + BitVec.ofNat 16 i.length)) := by
  rw [← length_encode]
  exact step_of_fetch hh (State.fetchInstr_of_decode (hbytes ▸ decode_encode i rest))

/-- A word operand is read from the two bytes after the opcode byte, low byte first (R55). -/
theorem operandBytes_mkWord (lo hi : Byte) : [lo, hi] = [loByte (mkWord hi lo), hiByte (mkWord hi lo)] := by
  simp

theorem step_lda {s : State} {i : Instr} {m : Byte} (rest : List Byte) (hh : s.halted = false) (hi : i.mnemonic = .LDA)
    (hvalue : i.operand.value s = m) (hop : (s.readByte s.pc).toNat = i.opcode.toNat)
    (hoperand : [s.readByte (s.pc + 1), s.readByte (s.pc + 2)] = i.operand.bytes ++ rest) :
    step s = .next { s with a := m, p := withZN s.p m, pc := s.pc + BitVec.ofNat 16 i.length } := by
  rw [step_of_encode hh (State.bytesAtPc_eq_encode hop hoperand), exec_lda hi, Operand.value_setPc, hvalue]
  rfl

/-- Settles O34: the bytes at PC are an encoding of the form's LDA, whose operand is resolved as the statement computes it. -/
theorem ldaStepsFromRawBytes : Obligations.LdaStepsFromRawBytes := by
  intro s hh op b w loads
  let lo := s.readByte (s.pc + 1)
  let hi := s.readByte (s.pc + 2)
  have hw : (mkWord hi lo).toNat = w := (toNat_mkWord hi lo).trans (Nat.add_comm _ _)
  have hbytes := operandBytes_mkWord lo hi
  have habs : mkWord hi lo = addr w := by simp [addr, ← hw]
  have hindexed : ∀ index, mkWord hi lo + zext16 index = addr ((w + index.toNat) % 65536) := fun index =>
    hw ▸ add_zext16_eq_addr (mkWord hi lo) index
  exact ⟨fun hop => step_lda (i := .ldaImm lo) [hi] hh rfl rfl hop rfl,
    fun hop => step_lda (i := .ldaZp lo) [hi] hh rfl (congrArg s.readByte (zext16_eq_addr lo)) hop rfl,
    fun hop => step_lda (i := .ldaZpx lo) [hi] hh rfl (congrArg s.readByte (zext16_add_eq_addr lo s.x)) hop rfl,
    fun hop => step_lda (i := .ldaAbs (mkWord hi lo)) [] hh rfl (congrArg s.readByte habs) hop hbytes,
    fun hop => step_lda (i := .ldaAbx (mkWord hi lo)) [] hh rfl (congrArg s.readByte (hindexed s.x)) hop hbytes,
    fun hop => step_lda (i := .ldaAby (mkWord hi lo)) [] hh rfl (congrArg s.readByte (hindexed s.y)) hop hbytes,
    fun hop => step_lda (i := .ldaIzx lo) [hi] hh rfl (congrArg s.readByte (zpPtr_eq_addr (lo + s.x) s)) hop rfl,
    fun hop => step_lda (i := .ldaIzy lo) [hi] hh rfl (congrArg s.readByte (eaIzy_eq_addr lo s)) hop rfl⟩

end Sys2Proof.Machine
end

section
/-! Flag bits and the adder on numbers (R118, R150): the sum in base 256, signed overflow, and the complement of M, which makes
the adder subtract (R152). -/
namespace Sys2Proof.Machine
open Sys2Proof.Claims

theorem beq_zero_eq_decide (v : Byte) : (v == 0#8) = decide (v.toNat = 0) :=
  (congrArg Flags.z (withZN_eq_setZN Flags.cleared v)).symm

theorem getLsbD_seven_eq_decide (v : Byte) : v.getLsbD 7 = decide (128 ≤ v.toNat) :=
  BitVec.msb_eq_decide v

theorem getLsbD_six_eq_decide (v : Byte) : v.getLsbD 6 = decide (64 ≤ v.toNat % 128) := by
  revert v
  decide

/-- A byte read as a signed number, by its sign. -/
theorem sign_cases (v : Byte) :
    v.msb = false ∧ v.toNat < 128 ∧ v.toInt = v.toNat ∨ v.msb = true ∧ 128 ≤ v.toNat ∧ v.toInt = v.toNat - 256 := by
  rw [BitVec.toInt_eq_msb_cond, BitVec.msb_eq_decide]
  by_cases h : 128 ≤ v.toNat
  · simp [h]
  · simp [h]
    omega

/-! ## The adder -/

/-- The adder's result byte as the statement of ADC writes it (R150). -/
theorem add8_result_eq_ofNat (a m : Byte) (c : Bool) :
    (add8 a m c).result = BitVec.ofNat 8 ((a.toNat + m.toNat + c.toNat) % 256) := by
  rw [← toNat_add8_result, BitVec.ofNat_toNat, BitVec.setWidth_eq]

/-- Result and carry out together are the 9-bit sum. -/
theorem add8_sum (a m : Byte) (c : Bool) :
    (add8 a m c).result.toNat + 256 * (add8 a m c).carry.toNat = a.toNat + m.toNat + c.toNat := by
  have ha := a.isLt
  have hm := m.isLt
  have hc := c.toNat_le
  rw [toNat_add8_result, add8_carry]
  by_cases h : a.toNat + m.toNat + c.toNat > 255 <;> simp [h] <;> omega

/-- The adder on the low bytes and, with its carry, on the high bytes adds two 16-bit numbers (R167). -/
theorem add8_chain (aLo aHi mLo mHi : Byte) (c : Bool) :
    let lo := add8 aLo mLo c
    let hi := add8 aHi mHi lo.carry
    let sum := aLo.toNat + 256 * aHi.toNat + mLo.toNat + 256 * mHi.toNat + c.toNat
    lo.result.toNat + 256 * hi.result.toNat = sum % 65536 ∧ hi.carry = decide (65535 < sum) := by
  intro lo hi sum
  have hlo : lo.result.toNat + 256 * lo.carry.toNat = aLo.toNat + mLo.toNat + c.toNat := add8_sum aLo mLo c
  have hhi : hi.result.toNat + 256 * hi.carry.toNat = aHi.toNat + mHi.toNat + lo.carry.toNat :=
    add8_sum aHi mHi lo.carry
  have htotal : lo.result.toNat + 256 * hi.result.toNat + 65536 * hi.carry.toNat = sum := by omega
  have hloLt := lo.result.isLt
  have hhiLt := hi.result.isLt
  cases hcarry : hi.carry <;> simp [hcarry] at htotal ⊢ <;> omega

/-! ## Overflow -/

theorem add8_overflow_eq_addOverflow (a m : Byte) (c : Bool) :
    (add8 a m c).overflow = addOverflow a m (add8 a m c).result := rfl

/-- The overflow test of R150 on the number that the mask leaves. -/
theorem addOverflow_eq_decide (a m r : Byte) :
    addOverflow a m r = decide (((a ^^^ r) &&& (m ^^^ r) &&& 0x80#8).toNat ≠ 0) := by
  rw [addOverflow, bne, beq_zero_eq_decide, decide_not]

/-- Bit 7 is the only bit that the mask of R150 keeps. -/
theorem and_signMask_ne_zero (v : Byte) : (v &&& 0x80#8 != 0#8) = v.msb := by
  revert v
  decide

/-- The overflow test of R150: both operands differ in sign from the result. -/
theorem addOverflow_eq_msb (a m r : Byte) : addOverflow a m r = ((a.msb ^^ r.msb) && (m.msb ^^ r.msb)) := by
  rw [addOverflow, and_signMask_ne_zero, BitVec.msb_and, BitVec.msb_xor, BitVec.msb_xor]

/-- The overflow bit is 1 exactly when the signed sum has no 8-bit representation (R150): by the signs of the operands and of
the result, the result being the sum less 256 times the carry. -/
theorem add8_overflow (a m : Byte) (c : Bool) :
    (add8 a m c).overflow =
      decide (a.toInt + m.toInt + (c.toNat : Int) < -128 ∨ 127 < a.toInt + m.toInt + (c.toNat : Int)) := by
  have hsum := add8_sum a m c
  have hcarry := (add8 a m c).carry.toNat_le
  have hc := c.toNat_le
  rw [add8_overflow_eq_addOverflow, addOverflow_eq_msb, eq_comm]
  rcases sign_cases a with ⟨ha, haRange, haInt⟩ | ⟨ha, haRange, haInt⟩ <;>
  rcases sign_cases m with ⟨hm, hmRange, hmInt⟩ | ⟨hm, hmRange, hmInt⟩ <;>
  rcases sign_cases (add8 a m c).result with ⟨hr, hrRange, -⟩ | ⟨hr, hrRange, -⟩ <;>
  simp [ha, hm, hr, haInt, hmInt] <;> omega

/-! ## The adder fed the complement of M -/

theorem toNat_complement (m : Byte) : (m ^^^ 0xFF#8).toNat = 255 - m.toNat := by
  have hnot : m ^^^ 0xFF#8 = ~~~m := BitVec.xor_allOnes
  rw [hnot, BitVec.toNat_not]

theorem toInt_complement (m : Byte) : (m ^^^ 0xFF#8).toInt = -1 - m.toInt := by
  have hnat := toNat_complement m
  rcases sign_cases m with ⟨-, hrange, hint⟩ | ⟨-, hrange, hint⟩ <;>
    rcases sign_cases (m ^^^ 0xFF#8) with ⟨-, hrange', hint'⟩ | ⟨-, hrange', hint'⟩ <;> omega

/-- Adding the complement of M and the carry takes M and the borrow from A (R152, D8). -/
theorem add8_complement_result (a m : Byte) (c : Bool) :
    (add8 a (m ^^^ 0xFF#8) c).result = BitVec.ofNat 8 ((a.toNat + 256 - m.toNat - (1 - c.toNat)) % 256) := by
  have hm := m.isLt
  have hc := c.toNat_le
  have hsum : a.toNat + (255 - m.toNat) + c.toNat = a.toNat + 256 - m.toNat - (1 - c.toNat) := by omega
  rw [add8_result_eq_ofNat, toNat_complement, hsum]

/-- The carry of a subtraction is 1 exactly when nothing is borrowed (R152, D8). -/
theorem add8_complement_carry (a m : Byte) (c : Bool) :
    (add8 a (m ^^^ 0xFF#8) c).carry = decide (m.toNat + (1 - c.toNat) ≤ a.toNat) := by
  have hm := m.isLt
  have hc := c.toNat_le
  rw [add8_carry, toNat_complement, decide_eq_decide]
  omega

/-- The overflow bit of a subtraction says that the signed difference has no 8-bit representation (R152, D8). -/
theorem add8_complement_overflow (a m : Byte) (c : Bool) :
    (add8 a (m ^^^ 0xFF#8) c).overflow =
      decide (a.toInt - m.toInt - ((1 - c.toNat : Nat) : Int) < -128 ∨
        127 < a.toInt - m.toInt - ((1 - c.toNat : Nat) : Int)) := by
  have hc := c.toNat_le
  rw [add8_overflow, toInt_complement, decide_eq_decide]
  omega

/-- The adder on the complements of two bytes, with a carry in of 1, subtracts a 16-bit number (R167, D8). -/
theorem add8_complement_chain (aLo aHi mLo mHi : Byte) :
    let lo := add8 aLo (mLo ^^^ 0xFF#8) true
    let hi := add8 aHi (mHi ^^^ 0xFF#8) lo.carry
    let a := aLo.toNat + 256 * aHi.toNat
    let m := mLo.toNat + 256 * mHi.toNat
    lo.result.toNat + 256 * hi.result.toNat = (a + 65536 - m) % 65536 ∧ hi.carry = decide (m ≤ a) := by
  intro lo hi a m
  have hmLo := mLo.isLt
  have hmHi := mHi.isLt
  have hsum : aLo.toNat + 256 * aHi.toNat + (255 - mLo.toNat) + 256 * (255 - mHi.toNat) + true.toNat =
      a + 65536 - m := by
    rw [Bool.toNat_true]
    omega
  have hborrow : 65535 < a + 65536 - m ↔ m ≤ a := by omega
  obtain ⟨hresult, hcarry⟩ := add8_chain aLo aHi (mLo ^^^ 0xFF#8) (mHi ^^^ 0xFF#8) true
  rw [toNat_complement, toNat_complement, hsum] at hresult hcarry
  exact ⟨hresult, hcarry.trans (decide_eq_decide.mpr hborrow)⟩

end Sys2Proof.Machine
end

section
/-! ADC and SBC (R151, R152), and their chains over two bytes (R167). -/
namespace Sys2Proof.Machine
open Sys2Proof.Claims

theorem addToA_eq (m : Byte) (s : State) :
    addToA m s = { s with
      a := (add8 s.a m s.p.c).result
      p := withZN { s.p with c := (add8 s.a m s.p.c).carry, v := (add8 s.a m s.p.c).overflow }
        (add8 s.a m s.p.c).result } := by
  rw [withZN_eq_setZN]
  rfl

/-- Settles O38: ADC is the adder, whose overflow bit is both the rule's formula and the signed range. -/
theorem adcAddsWithCarry : Obligations.AdcAddsWithCarry := by
  intro i s hi
  let m := i.operand.value s
  refine ⟨m, Instr.m?_of_reader (by simp [hi]) s, ?_⟩
  intro sum r v signed
  have hexec : exec i s = .next (addToA m s) := exec_of_mnemonic hi s
  have hr : (add8 s.a m s.p.c).result = r := add8_result_eq_ofNat s.a m s.p.c
  have hv : (add8 s.a m s.p.c).overflow = v := by
    rw [add8_overflow_eq_addOverflow, hr]
    exact addOverflow_eq_decide s.a m r
  constructor
  · rw [hexec, addToA_eq, hr, hv, add8_carry]
  · rw [← hv, add8_overflow, decide_eq_true_iff]

/-- Settles O39: SBC is the adder fed the complement of M. -/
theorem sbcSubtractsWithBorrow : Obligations.SbcSubtractsWithBorrow := by
  intro i s hi
  let m := i.operand.value s
  have hexec : exec i s = .next (addToA (m ^^^ 0xFF#8) s) := exec_of_mnemonic hi s
  refine ⟨m, Instr.m?_of_reader (by simp [hi]) s, ?_⟩
  rw [hexec, addToA_eq, add8_complement_result, add8_complement_carry, add8_complement_overflow]

/-- Settles O45: CLC makes the first carry in 0, and LDA keeps the carry between the two additions. -/
theorem adcChainAddsWords : Obligations.AdcChainAddsWords := by
  rintro s aLo aHi mLo mHi rfl
  exact ⟨_, _, rfl, rfl, add8_chain s.a aHi mLo mHi false⟩

/-- Settles O46: SEC makes the first carry in 1, and LDA keeps the carry between the two subtractions. -/
theorem sbcChainSubtractsWords : Obligations.SbcChainSubtractsWords := by
  rintro s aLo aHi mLo mHi rfl
  exact ⟨_, _, rfl, rfl, add8_complement_chain s.a aHi mLo mHi⟩

end Sys2Proof.Machine
end

section
/-! Logic, BIT and the compares (R153 to R160). -/
namespace Sys2Proof.Machine
open Sys2Proof.Claims

/-- An instruction whose effect is a load of A loads it with Z and N of the value, and changes nothing else. -/
theorem exec_of_effect_loadA {i : Instr} {m : Mnemonic} {r : Byte} {s : State} (hi : i.mnemonic = m)
    (hload : effect m i.operand s = loadA r s) : exec i s = .next { s with a := r, p := withZN s.p r } := by
  rw [exec_of_mnemonic hi, hload, loadA_eq]

/-- Settles O40: each logic instruction is a load of A from the bitwise combination. -/
theorem logicCombinesBits : Obligations.LogicCombinesBits := by
  intro i s f h
  have hm : m? i s = some (i.operand.value s) :=
    Instr.m?_of_reader (by rcases h with ⟨hi, -⟩ | ⟨hi, -⟩ | ⟨hi, -⟩ <;> simp [hi]) s
  rcases h with ⟨hi, rfl⟩ | ⟨hi, rfl⟩ | ⟨hi, rfl⟩
  · exact ⟨_, _, hm, exec_of_effect_loadA hi rfl, fun _ _ => BitVec.getLsbD_and⟩
  · exact ⟨_, _, hm, exec_of_effect_loadA hi rfl, fun _ _ => BitVec.getLsbD_or⟩
  · exact ⟨_, _, hm, exec_of_effect_loadA hi rfl, fun _ _ => BitVec.getLsbD_xor⟩

/-- Settles O41: BIT's effect writes three flags, here as numbers. -/
theorem bitTestsTheOperand : Obligations.BitTestsTheOperand := by
  intro i s hi
  have hexec : exec i s = .next (bitA (i.operand.value s) s) := exec_of_mnemonic hi s
  refine ⟨_, Instr.m?_of_reader (by simp [hi]) s, ?_⟩
  rw [hexec, ← beq_zero_eq_decide, ← getLsbD_seven_eq_decide, ← getLsbD_six_eq_decide]
  rfl

/-- The compare core on numbers: Z of the 8-bit difference says that the two are equal (R157). -/
theorem Flags.compare_eq (p : Flags) (reg m : Byte) :
    p.compare reg m = { p with
      c := decide (m.toNat ≤ reg.toNat)
      z := decide (reg = m)
      n := decide (128 ≤ (reg.toNat + 256 - m.toNat) % 256) } := by
  have hdiff : (reg - m).toNat = (reg.toNat + 256 - m.toNat) % 256 := by
    have hm := m.isLt
    rw [BitVec.toNat_sub]
    omega
  have hz : (reg - m == 0#8) = decide (reg = m) := by
    rw [Bool.eq_iff_iff]
    simp [BitVec.sub_eq_iff_eq_add]
  rw [← hdiff, ← getLsbD_seven_eq_decide, ← hz]
  rfl

/-- Settles O42: each compare is the compare core on the mnemonic's register. -/
theorem comparesWriteOnlyFlags : Obligations.ComparesWriteOnlyFlags := by
  intro i s reg h
  have hm : m? i s = some (i.operand.value s) :=
    Instr.m?_of_reader (by rcases h with ⟨hi, -⟩ | ⟨hi, -⟩ | ⟨hi, -⟩ <;> simp [hi]) s
  refine ⟨_, hm, ?_⟩
  rw [← Flags.compare_eq]
  rcases h with ⟨hi, rfl⟩ | ⟨hi, rfl⟩ | ⟨hi, rfl⟩ <;> exact exec_of_mnemonic hi s

end Sys2Proof.Machine
end

section
/-! Increments and decrements of memory and of X and Y (R161 to R166). -/
namespace Sys2Proof.Machine
open Sys2Proof.Claims

theorem State.writeByte_setZN_onlyByteAt (s : State) (ea : Word) (v : Byte) :
    OnlyByteAt s ((s.writeByte ea v).setZN v) ea v :=
  s.writeByte_onlyByteAt ea v

theorem State.writeByte_setZN_sameButMemory (s : State) (ea : Word) (v : Byte) :
    SameButMemory { s with p := withZN s.p v } ((s.writeByte ea v).setZN v) := by
  rw [withZN_eq_setZN]
  rfl

/-- Neither INC nor DEC has an accumulator form, so each has an address. -/
theorem ea?_of_incDec {i : Instr} (h : i.mnemonic = .INC ∨ i.mnemonic = .DEC) (s : State) :
    ea? i s = some (i.operand.address s) := by
  have hnotAcc : i.form ≠ .ACC := by
    intro hacc
    have hshift := Instr.mnemonic_of_form_acc hacc
    rcases h with hi | hi <;> simp [hi] at hshift
  exact Instr.address?_of_writer (by rcases h with hi | hi <;> simp [hi]) hnotAcc s

/-- Settles O43: both write the new byte at the operand's address and set Z and N from it. -/
theorem incDecMemoryWraps : Obligations.IncDecMemoryWraps := by
  intro i s h
  refine ⟨_, _, ea?_of_incDec h s, ?_, s.writeByte_setZN_onlyByteAt _ _, s.writeByte_setZN_sameButMemory _ _⟩
  rcases h with hi | hi
  · rw [exec_of_mnemonic hi, if_pos hi, ← add_one_eq_ofNat]
    rfl
  · rw [exec_of_mnemonic hi, if_neg (by simp [hi]), ← sub_one_eq_ofNat]
    rfl

/-- Settles O44: each of the four is a load of its register from the next or the previous byte. -/
theorem incDecRegisterWraps : Obligations.IncDecRegisterWraps := by
  intro s
  simp only [← add_one_eq_ofNat, ← sub_one_eq_ofNat]
  exact ⟨congrArg Host.Outcome.next (loadX_eq (s.x + 1) s), congrArg Host.Outcome.next (loadY_eq (s.y + 1) s),
    congrArg Host.Outcome.next (loadX_eq (s.x - 1) s), congrArg Host.Outcome.next (loadY_eq (s.y - 1) s)⟩

end Sys2Proof.Machine
end

section
/-! The shifts on numbers (R181 to R184): the result with the bit shifted out beside it is the byte moved by one place, with the
bit shifted in where a rotate has one. -/
namespace Sys2Proof.Machine
open Sys2Proof.Claims

/-! ## One shift -/

theorem aslOp_sum (v : Byte) (c : Bool) :
    (aslOp v c).result.toNat + 256 * (aslOp v c).carry.toNat = 2 * v.toNat := by
  revert v c
  decide

theorem lsrOp_sum (v : Byte) (c : Bool) : 2 * (lsrOp v c).result.toNat + (lsrOp v c).carry.toNat = v.toNat := by
  revert v c
  decide

theorem rolOp_sum (v : Byte) (c : Bool) :
    (rolOp v c).result.toNat + 256 * (rolOp v c).carry.toNat = 2 * v.toNat + c.toNat := by
  revert v c
  decide

theorem rorOp_sum (v : Byte) (c : Bool) :
    2 * (rorOp v c).result.toNat + (rorOp v c).carry.toNat = v.toNat + 256 * c.toNat := by
  revert v c
  decide

/-- Moved left, with `cin` in at the bottom and `out` out at the top (R181, R183). -/
theorem eq_of_left_sum {v r : Byte} {cin out : Nat} (hin : cin ≤ 1) (h : r.toNat + 256 * out = 2 * v.toNat + cin) :
    r.toNat = v.toNat * 2 % 256 + cin ∧ out = v.toNat / 128 := by
  have hr := r.isLt
  omega

/-- Moved right, with `cin` in at the top and `out` out at the bottom (R182, R184). -/
theorem eq_of_right_sum {v r : Byte} {cin out : Nat} (hout : out ≤ 1) (h : 2 * r.toNat + out = v.toNat + 256 * cin) :
    r.toNat = v.toNat / 2 + 128 * cin ∧ out = v.toNat % 2 := by
  omega

/-- The model's operation is the statements' function of the mnemonic on numbers. -/
def ShiftOp.Computes (f : ShiftOp) (m : Mnemonic) : Prop :=
  ∀ (v : Byte) (c : Bool), shiftOf m v.toNat c.toNat = some ((f v c).result.toNat, (f v c).carry.toNat)

theorem aslOp_computes : aslOp.Computes .ASL := by
  intro v c
  obtain ⟨hr, hout⟩ := eq_of_left_sum (Nat.zero_le 1) (aslOp_sum v c)
  simp [shiftOf, hr, hout]

theorem lsrOp_computes : lsrOp.Computes .LSR := by
  intro v c
  obtain ⟨hr, hout⟩ := eq_of_right_sum (cin := 0) (lsrOp v c).carry.toNat_le (lsrOp_sum v c)
  simp [shiftOf, hr, hout]

theorem rolOp_computes : rolOp.Computes .ROL := by
  intro v c
  obtain ⟨hr, hout⟩ := eq_of_left_sum c.toNat_le (rolOp_sum v c)
  simp [shiftOf, hr, hout]

theorem rorOp_computes : rorOp.Computes .ROR := by
  intro v c
  obtain ⟨hr, hout⟩ := eq_of_right_sum (rorOp v c).carry.toNat_le (rorOp_sum v c)
  simp [shiftOf, hr, hout]

/-! ## Two shifts chained by the carry (R185) -/

/-- ASL of the low byte and ROL of the high byte double the word; the bit that leaves the high byte is the word's top bit. -/
theorem aslOp_rolOp_word (lo hi : Byte) (c : Bool) :
    (aslOp lo c).result.toNat + 256 * (rolOp hi (aslOp lo c).carry).result.toNat =
      (lo.toNat + 256 * hi.toNat) * 2 % 65536 ∧
    (rolOp hi (aslOp lo c).carry).carry = decide (32768 ≤ lo.toNat + 256 * hi.toNat) := by
  have hlo := aslOp_sum lo c
  have hhi := rolOp_sum hi (aslOp lo c).carry
  have hloLt := (aslOp lo c).result.isLt
  have hhiLt := (rolOp hi (aslOp lo c).carry).result.isLt
  cases hout : (rolOp hi (aslOp lo c).carry).carry <;> simp [hout] at hhi ⊢ <;> omega

/-- LSR of the high byte and ROR of the low byte halve the word; the bit that leaves the low byte is the word's bottom bit. -/
theorem lsrOp_rorOp_word (lo hi : Byte) (c : Bool) :
    (rorOp lo (lsrOp hi c).carry).result.toNat + 256 * (lsrOp hi c).result.toNat = (lo.toNat + 256 * hi.toNat) / 2 ∧
    (rorOp lo (lsrOp hi c).carry).carry = decide ((lo.toNat + 256 * hi.toNat) % 2 = 1) := by
  have hhi := lsrOp_sum hi c
  have hlo := rorOp_sum lo (lsrOp hi c).carry
  cases hout : (rorOp lo (lsrOp hi c).carry).carry <;> simp [hout] at hlo ⊢ <;> omega

/-! ## A rotate turns the ring of nine bits that the carry and the byte make (R183) -/

/-- The nine bits of the ring, the carry on top. -/
def carryRing (c : Bool) (v : Byte) : BitVec 9 := BitVec.cons c v

theorem carryRing_inj {c d : Bool} {v w : Byte} (h : carryRing c v = carryRing d w) : c = d ∧ v = w := by
  have hmsb := congrArg BitVec.msb h
  have hlow := congrArg (BitVec.setWidth 8) h
  simp only [carryRing, BitVec.msb_cons, BitVec.setWidth_cons] at hmsb hlow
  exact ⟨hmsb, hlow⟩

theorem rolOp_carryRing (v : Byte) (c : Bool) :
    carryRing (rolOp v c).carry (rolOp v c).result = (carryRing c v).rotateLeft 1 := by
  revert v c
  decide

theorem rotateLeft_rotateLeft {n : Nat} (x : BitVec n) (j k : Nat) :
    (x.rotateLeft j).rotateLeft k = x.rotateLeft (j + k) := by
  apply BitVec.eq_of_getMsbD_eq
  intro i hi
  have hmod : (k + i) % n < n := Nat.mod_lt _ (by omega)
  simp [BitVec.getMsbD_rotateLeft, hi, hmod, Nat.add_assoc]

/-- Any number of full turns leaves the bits where they were. -/
theorem rotateLeft_of_dvd {n k : Nat} (h : n ∣ k) (x : BitVec n) : x.rotateLeft k = x := by
  obtain ⟨turns, rfl⟩ := h
  apply BitVec.eq_of_getMsbD_eq
  intro i hi
  simp [BitVec.getMsbD_rotateLeft, hi, Nat.mod_eq_of_lt hi]

end Sys2Proof.Machine
end

section
/-! Shifts and rotates (R180 to R185), in the accumulator and in memory. -/
namespace Sys2Proof.Machine
open Sys2Proof.Claims

/-! ## What a shift makes of a state -/

theorem State.shiftA_eq (s : State) (f : ShiftOp) :
    s.shiftA f = { s with
      a := (f s.a s.p.c).result
      p := withZN { s.p with c := (f s.a s.p.c).carry } (f s.a s.p.c).result } := by
  rw [withZN_eq_setZN]
  rfl

theorem State.shiftMem_sameButMemory (s : State) (ea : Word) (f : ShiftOp) :
    SameButMemory { s with
      p := withZN { s.p with c := (f (s.readByte ea) s.p.c).carry } (f (s.readByte ea) s.p.c).result }
      (s.shiftMem ea f) := by
  rw [withZN_eq_setZN]
  rfl

theorem State.shiftMem_onlyByteAt (s : State) (ea : Word) (f : ShiftOp) :
    OnlyByteAt s (s.shiftMem ea f) ea (f (s.readByte ea) s.p.c).result :=
  s.writeByte_onlyByteAt ea _

/-- Each shift mnemonic is one operation, in whatever form, and the operation is the mnemonic's function (R180). -/
theorem effect_of_shift {m : Mnemonic} (h : m ∈ [Mnemonic.ASL, .LSR, .ROL, .ROR]) :
    ∃ f : ShiftOp, (∀ o s, effect m o s = s.shift o f) ∧ f.Computes m := by
  fin_cases h
  · exact ⟨aslOp, fun _ _ => rfl, aslOp_computes⟩
  · exact ⟨lsrOp, fun _ _ => rfl, lsrOp_computes⟩
  · exact ⟨rolOp, fun _ _ => rfl, rolOp_computes⟩
  · exact ⟨rorOp, fun _ _ => rfl, rorOp_computes⟩

theorem decide_toNat_eq_one (b : Bool) : decide (b.toNat = 1) = b := by
  cases b <;> rfl

/-- Settles O47: the form chooses the variant of the mnemonic's operation, whose result and carry are the statement's numbers. -/
theorem shiftsAndRotatesByOne : Obligations.ShiftsAndRotatesByOne := by
  intro i s hm
  obtain ⟨f, heffect, hf⟩ := effect_of_shift hm
  have hexec : exec i s = .next (s.shift i.operand f) := by rw [exec_eq_effect, heffect]
  refine ⟨fun hacc => ⟨_, _, hf s.a s.p.c, ?_⟩, fun hacc => ?_⟩
  · rw [hexec, State.shift_of_acc hacc, State.shiftA_eq, BitVec.ofNat_toNat, BitVec.setWidth_eq, decide_toNat_eq_one]
  · let ea := i.operand.address s
    have hea : ea? i s = some ea :=
      Instr.address?_of_writer (List.mem_append_right [.STA, .STX, .STY, .INC, .DEC] hm) hacc s
    refine ⟨ea, _, _, s.shiftMem ea f, hea, hf (s.readByte ea) s.p.c, ?_⟩
    rw [hexec, State.shift_of_not_acc hacc, BitVec.ofNat_toNat, BitVec.setWidth_eq, decide_toNat_eq_one]
    exact ⟨rfl, s.shiftMem_onlyByteAt ea f, s.shiftMem_sameButMemory ea f⟩

/-! ## Shifts in a row -/

/-- Two shifts at different addresses: the second sees its own byte as it was, and the carry of the first. -/
theorem State.shiftMem_shiftMem (s : State) {a b : Word} (hne : a ≠ b) (f g : ShiftOp) :
    let first := f (s.readByte a) s.p.c
    let second := g (s.readByte b) first.carry
    let t := (s.shiftMem a f).shiftMem b g
    t.readByte a = first.result ∧ t.readByte b = second.result ∧ t.p.c = second.carry := by
  intro first second t
  obtain ⟨hsame, hother⟩ := s.shiftMem_onlyByteAt a f
  obtain ⟨hsame', hother'⟩ := (s.shiftMem a f).shiftMem_onlyByteAt b g
  have hb : (s.shiftMem a f).readByte b = s.readByte b := hother b hne.symm
  have hc : (s.shiftMem a f).p.c = first.carry := rfl
  have ht : t.p.c = (g ((s.shiftMem a f).readByte b) (s.shiftMem a f).p.c).carry := rfl
  rw [hb, hc] at hsame' ht
  exact ⟨(hother' a hne).trans hsame, hsame', ht⟩

/-- `n` ROLs of A turn the ring of carry and A by `n` places. -/
theorem rolAcc_run (s : State) (n : Nat) :
    ∃ t, (List.range n).foldl (fun r _ => thenRun r (exec .rolAcc)) (.next s) = .next t ∧
      carryRing t.p.c t.a = (carryRing s.p.c s.a).rotateLeft n := by
  induction n with
  | zero => exact ⟨s, rfl, (rotateLeft_of_dvd (Nat.dvd_zero 9) _).symm⟩
  | succ n ih =>
    obtain ⟨t, hrun, hring⟩ := ih
    refine ⟨t.shiftA rolOp, ?_, ?_⟩
    · rw [List.range_succ, List.foldl_append, hrun]
      rfl
    · calc carryRing (rolOp t.a t.p.c).carry (rolOp t.a t.p.c).result
          _ = (carryRing t.p.c t.a).rotateLeft 1 := rolOp_carryRing t.a t.p.c
          _ = (carryRing s.p.c s.a).rotateLeft (n + 1) := by rw [hring, rotateLeft_rotateLeft]

/-- Settles O48: the two bytes of the word are shifted one after the other, and nine places are a full turn of the ring. -/
theorem rotatesChainThroughTheCarry : Obligations.RotatesChainThroughTheCarry := by
  intro s w
  refine ⟨⟨_, rfl, ?_⟩, ⟨_, rfl, ?_⟩, ?_⟩
  · obtain ⟨hlo, hhi, hc⟩ := s.shiftMem_shiftMem (self_ne_succ w) aslOp rolOp
    have hword := aslOp_rolOp_word (s.readByte w) (s.readByte (w + 1)) s.p.c
    rw [← hlo, ← hhi, ← hc] at hword
    exact hword
  · obtain ⟨hhi, hlo, hc⟩ := s.shiftMem_shiftMem (self_ne_succ w).symm lsrOp rorOp
    have hword := lsrOp_rorOp_word (s.readByte w) (s.readByte (w + 1)) s.p.c
    rw [← hlo, ← hhi, ← hc] at hword
    exact hword
  · obtain ⟨t, hrun, hring⟩ := rolAcc_run s 9
    obtain ⟨hc, ha⟩ := carryRing_inj (hring.trans (rotateLeft_of_dvd (Nat.dvd_refl 9) _))
    exact ⟨t, hrun, ha, hc⟩

end Sys2Proof.Machine
end

section
/-! Branches and jumps (R190 to R199), their targets computed on numbers as the statements give them. -/
namespace Sys2Proof
open Sys2Proof.Claims

theorem Mnemonic.forms_of_branch : ∀ m ∈ branches, ∀ f ∈ m.forms, f = .REL := by
  decide

theorem Instr.operand_of_branch {i : Instr} (h : i.mnemonic ∈ branches) : i.operand = .rel i.operand.offset := by
  have hform : i.operand.form = .REL := Mnemonic.forms_of_branch _ h _ i.form_mem_forms
  cases ho : i.operand
  case rel => rfl
  all_goals simp [ho, Operand.form] at hform

end Sys2Proof

namespace Sys2Proof.Machine
open Sys2Proof.Claims

/-! ## Branches -/

theorem mem_branches_of_condition {p : Flags} {m : Mnemonic} {cond : Bool} (h : branchCondition p m = some cond) :
    m ∈ branches := by
  cases m
  case BCC | BCS | BEQ | BNE | BMI | BPL | BVC | BVS => simp [branches]
  all_goals cases h

/-- A branch mnemonic is the common branch rule on the condition of its row (R190). -/
theorem effect_of_branch {s : State} {m : Mnemonic} {cond : Bool} (h : branchCondition s.p m = some cond) (o : Operand) :
    effect m o s = s.branch cond o.offset := by
  cases m
  case BCC | BCS | BEQ | BNE | BMI | BPL | BVC | BVS => cases h; rfl
  all_goals cases h

/-- The branch target with the offset as a signed number (R116). -/
theorem toNat_relTarget (b : Byte) (s : State) :
    ((relTarget b s).toNat : Int) = ((s.pc.toNat : Int) + b.toInt) % 65536 := by
  have hsigned : b.toInt = if b.toNat < 128 then (b.toNat : Int) else (b.toNat : Int) - 256 := by
    rw [BitVec.toInt_eq_toNat_cond]
    split <;> split <;> omega
  rw [hsigned]
  exact (relativeFormResolves s b).1

/-- Settles O49: a branch's operand is its offset, and its effect is the common rule on the flag it tests. -/
theorem branchesTestTheirFlag : Obligations.BranchesTestTheirFlag := by
  intro i s cond h
  refine ⟨_, relTarget i.operand.offset s, Instr.operand_of_branch (mem_branches_of_condition h), toNat_relTarget _ s, ?_⟩
  rw [exec_eq_effect, effect_of_branch h]
  rfl

/-! ## Jumps -/

theorem mkWord_eq_addr (hi lo : Byte) : mkWord hi lo = addr (lo.toNat + 256 * hi.toNat) := by
  rw [Nat.add_comm]
  rfl

/-- The indirect form wraps its second address at 0xFFFF, as every word read does (R57, R113). -/
theorem eaInd_eq_addr (w : Word) (s : State) :
    eaInd w s = addr ((s.readByte w).toNat + 256 * (s.readByte (addr ((w.toNat + 1) % 65536))).toNat) := by
  have hword : eaInd w s = mkWord (s.readByte (w + 1)) (s.readByte w) := rfl
  rw [hword, ← addr_succ_mod w, mkWord_eq_addr]

/-- Settles O50: both forms set PC to the operand's address. -/
theorem jumpSetsPc : Obligations.JumpSetsPc := fun s w =>
  ⟨rfl, congrArg (fun target => Host.Outcome.next (s.setPc target)) (eaInd_eq_addr w s)⟩

end Sys2Proof.Machine
end

section
/-! Call and return (R200 to R203) under both values of LINKAGE. -/
namespace Sys2Proof.Machine
open Sys2Proof.Claims

theorem exec_jsrAbs (w : Word) (s : State) : exec (.jsrAbs w) s = .next (s.callSubroutine w) := rfl

theorem exec_rts (s : State) : exec .rts s = .next s.returnFromSubroutine := rfl

/-! ## The bytes of a pushed word -/

theorem State.pushWord_readByte_high (s : State) (w : Word) : (s.pushWord w).readByte (stackAddr s.sp) = hiByte w :=
  (State.push_readByte_other (s.push (hiByte w)) (loByte w) (stackAddr_pred_ne s.sp).symm).trans
    (s.push_readByte_same (hiByte w))

theorem State.pushWord_readByte_low (s : State) (w : Word) :
    (s.pushWord w).readByte (stackAddr (s.sp - 1)) = loByte w :=
  State.push_readByte_same (s.push (hiByte w)) (loByte w)

theorem State.pushWord_readByte_other (s : State) (w : Word) {a : Word} (hhigh : a ≠ stackAddr s.sp)
    (hlow : a ≠ stackAddr (s.sp - 1)) : (s.pushWord w).readByte a = s.readByte a :=
  (State.push_readByte_other (s.push (hiByte w)) (loByte w) hlow).trans (s.push_readByte_other (hiByte w) hhigh)

theorem State.pushWord_setPc_sameButMemory (s : State) (w target : Word) :
    SameButMemory { s with pc := target, sp := s.sp - 1 - 1 } ((s.pushWord w).setPc target) := by
  cases s
  rfl

/-! ## Numbers modulo 256 and 65536 -/

theorem sub_two_eq_ofNat (sp : Byte) : sp - 1 - 1 = BitVec.ofNat 8 ((sp.toNat + 254) % 256) := by
  bv_omega

theorem add_two_eq_ofNat (sp : Byte) : sp + 1 + 1 = BitVec.ofNat 8 ((sp.toNat + 2) % 256) := by
  bv_omega

theorem stackAddr_sub_one_eq_addr (sp : Byte) : stackAddr (sp - 1) = addr (256 + (sp.toNat + 255) % 256) :=
  stackAddr_sub_one sp

theorem stackAddr_add_two (sp : Byte) : stackAddr (sp + 1 + 1) = addr (256 + (sp.toNat + 2) % 256) := by
  rw [stackAddr_eq_addr, add_two_eq_ofNat, BitVec.toNat_ofNat, Nat.mod_mod]

theorem toNat_sub_one (w : Word) : (w - 1).toNat = (w.toNat + 65535) % 65536 := by
  bv_omega

theorem mkWord_succ_eq_addr (hi lo : Byte) :
    mkWord hi lo + 1 = addr ((256 * hi.toNat + lo.toNat + 1) % 65536) := by
  rw [← addr_succ_mod, toNat_mkWord]

/-- Settles O51: the call is the jump alone or, under hardware, the jump after a push of the word before PC. -/
theorem jsrJumpsAndLinks : Obligations.JsrJumpsAndLinks := by
  intro s w
  rw [exec_jsrAbs]
  refine ⟨fun hl => ?_, fun hl => ⟨_, rfl, ?_⟩⟩
  · rw [State.callSubroutine_halting hl]
    rfl
  · rw [State.callSubroutine_hardware hl, ← stackAddr_eq_addr, ← stackAddr_sub_one_eq_addr, ← sub_two_eq_ofNat,
      ← toNat_sub_one]
    refine ⟨?_, ?_, fun a hhigh hlow => ?_, s.pushWord_setPc_sameButMemory _ w⟩
    · rw [State.setPc_readByte, State.pushWord_readByte_high, toNat_hiByte]
    · rw [State.setPc_readByte, State.pushWord_readByte_low, toNat_loByte]
    · rw [State.setPc_readByte, State.pushWord_readByte_other s _ hhigh hlow]

/-- Settles O52: the return is the halt alone or, under hardware, a pull of the word before the new PC. -/
theorem rtsHaltsOrReturns : Obligations.RtsHaltsOrReturns := by
  intro s
  rw [exec_rts]
  refine ⟨fun hl => ?_, fun hl => ?_⟩
  · rw [State.returnFromSubroutine_halting hl]
    rfl
  · intro lo hi
    have hpc : s.pullWord.1 + 1 = addr ((256 * hi + lo + 1) % 65536) := by
      rw [State.pullWord_fst, mkWord_succ_eq_addr, stackAddr_add_two, stackAddr_add_one]
    rw [State.returnFromSubroutine_hardware hl, hpc, State.pullWord_snd, add_two_eq_ofNat]
    rfl

theorem State.setPc_setPc (s : State) (v w : Word) : (s.setPc v).setPc w = s.setPc w := rfl

/-- A return right after a call pulls the word that the call pushed: PC and SP are as before the call. -/
theorem State.returnFromSubroutine_callSubroutine {s : State} (hl : s.cfg.linkage = .hardware) (w : Word) :
    (s.callSubroutine w).returnFromSubroutine = ((s.pushWord (s.pc - 1)).setSp s.sp).setPc s.pc := by
  let t := s.pushWord (s.pc - 1)
  have hpull : (t.setPc w).pullWord = (t.pullWord.1, t.pullWord.2.setPc w) := rfl
  have hback : s.pc - 1 + 1 = s.pc := BitVec.sub_add_cancel s.pc 1
  rw [State.callSubroutine_hardware hl, State.returnFromSubroutine_hardware (s := t.setPc w) hl, hpull,
    State.pullWord_pushWord, hback]
  exact State.setPc_setPc _ w s.pc

/-- Settles O53: the return undoes the call but for the two bytes the call left in the stack page. -/
theorem callThenReturnComesBack : Obligations.CallThenReturnComesBack := by
  intro s w hl
  refine ⟨(s.callSubroutine w).returnFromSubroutine, ?_, ?_⟩
  · rw [exec_jsrAbs]
    exact exec_rts _
  · rw [State.returnFromSubroutine_callSubroutine hl]
    cases s
    rfl

/-! ## LINKAGE is read by call and return only -/

/-- The resolver reads ZP_PTR_WRAP of the parameters and nothing else (R114). -/
theorem operandAddress?_withCfg_of_zpPtrWrap {s : State} {c : Config} (h : c.zpPtrWrap = s.cfg.zpPtrWrap) (o : Operand) :
    o.address? (s.withCfg c) = o.address? s := by
  have hpointer : ∀ p, zpPtr p (s.withCfg c) = zpPtr p s := by
    intro p
    have hhigh : zpPtrHigh p (s.withCfg c) = zpPtrHigh p s := by
      simp [zpPtrHigh, State.withCfg, h]
    unfold zpPtr
    rw [hhigh]
    rfl
  cases o
  case izx b => exact congrArg some (hpointer (b + s.x))
  case izy b => exact congrArg (fun p => some (p + zext16 s.y)) (hpointer b)
  all_goals rfl

/-- Settles O27: LINKAGE changes no operand's address, so only call and return can do otherwise. -/
theorem linkageMattersOnlyToCallAndReturn : Obligations.LinkageMattersOnlyToCallAndReturn := by
  intro i s t l hcall hreturn h
  have hlinkage : i.mnemonic ∈ [Mnemonic.JSR, .RTS] → l = s.cfg.linkage := by simp [hcall, hreturn]
  have hwrap : ({ s.cfg with linkage := l } : Config).zpPtrWrap = s.cfg.zpPtrWrap := rfl
  rw [exec_cfg h]
  exact exec_withCfg hlinkage (operandAddress?_withCfg_of_zpPtrWrap hwrap _) h

end Sys2Proof.Machine
end

section
/-! Who writes PC, memory and the run state (R204, R59, R31): in each lemma the writers are the cases that the hypothesis
excludes. -/
namespace Sys2Proof.Machine
open Sys2Proof.Claims

/-! ## Operations with two ends -/

theorem State.shift_pc_halted (s : State) (o : Operand) (f : ShiftOp) :
    (s.shift o f).pc = s.pc ∧ (s.shift o f).halted = s.halted := by
  by_cases h : o.form = .ACC
  · rw [State.shift_of_acc h]; exact ⟨rfl, rfl⟩
  · rw [State.shift_of_not_acc h]; exact ⟨rfl, rfl⟩

theorem State.branch_halted (s : State) (cond : Bool) (b : Byte) : (s.branch cond b).halted = s.halted := by
  cases cond <;> rfl

theorem State.callSubroutine_halted (s : State) (ea : Word) : (s.callSubroutine ea).halted = s.halted := by
  cases h : s.cfg.linkage
  · rw [State.callSubroutine_halting h, State.setPc_halted]
  · rw [State.callSubroutine_hardware h, State.setPc_halted, State.pushWord_halted]

section
variable {m : Mnemonic} {s : State}

theorem effect_keeps_pc (h : m ∉ branches ++ [.JMP, .JSR, .RTS, .RTI]) (o : Operand) : (effect m o s).pc = s.pc := by
  cases m
  case BCC | BCS | BEQ | BNE | BMI | BPL | BVC | BVS | JMP | JSR | RTS | RTI => simp [branches] at h
  case ASL | LSR | ROL | ROR => exact (s.shift_pc_halted o _).1
  all_goals rfl

/-- Under LINKAGE = halting RTS does not return, so it keeps PC (R203). -/
theorem effect_rts_keeps_pc (hl : s.cfg.linkage = .halting) (o : Operand) : (effect .RTS o s).pc = s.pc := by
  rw [effect, State.returnFromSubroutine_halting hl, State.halt_pc]

theorem effect_keeps_mem
    (h : m ∉ [Mnemonic.STA, .STX, .STY, .INC, .DEC, .ASL, .LSR, .ROL, .ROR, .PHA, .PHP, .JSR]) (o : Operand) :
    (effect m o s).mem = s.mem := by
  cases m
  case STA | STX | STY | INC | DEC | ASL | LSR | ROL | ROR | PHA | PHP | JSR => simp at h
  case BCC | BCS | BEQ | BNE | BMI | BPL | BVC | BVS => exact s.branch_mem _ _
  case RTS => exact s.returnFromSubroutine_mem
  all_goals rfl

/-- A shift in the accumulator form writes A and no memory (R180). -/
theorem effect_keeps_mem_of_acc (h : m ∈ [Mnemonic.ASL, .LSR, .ROL, .ROR]) {o : Operand} (ho : o.form = .ACC) :
    (effect m o s).mem = s.mem := by
  obtain ⟨f, heffect, -⟩ := effect_of_shift h
  rw [heffect, State.shift_of_acc ho, State.shiftA_mem]

/-- Under LINKAGE = halting JSR pushes nothing (R201). -/
theorem effect_jsr_keeps_mem (hl : s.cfg.linkage = .halting) (o : Operand) : (effect .JSR o s).mem = s.mem := by
  rw [effect, State.callSubroutine_halting hl, State.setPc_mem]

theorem effect_keeps_halted (h : ¬ (m = .BRK ∨ (m = .RTS ∧ s.cfg.linkage = .halting))) (o : Operand) :
    (effect m o s).halted = s.halted := by
  cases m
  case BRK => simp at h
  case RTS =>
    cases hl : s.cfg.linkage with
    | halting => exact absurd (.inr ⟨rfl, hl⟩) h
    | hardware =>
      rw [effect, State.returnFromSubroutine_hardware hl, State.pullWord_snd, State.setPc_halted, State.setSp_halted]
  case BCC | BCS | BEQ | BNE | BMI | BPL | BVC | BVS => exact s.branch_halted _ _
  case JSR => exact s.callSubroutine_halted _
  case ASL | LSR | ROL | ROR => exact (s.shift_pc_halted o _).2
  all_goals rfl

end

/-- Settles O25: field by field, over the effects of the mnemonics; the accumulator form is that of the shifts. -/
theorem otherStateIsWrittenOnlyByItsWriters : Obligations.OtherStateIsWrittenOnlyByItsWriters := by
  intro i s t h
  rw [eq_effect_of_exec h]
  refine ⟨(effect_keeps_pc · _), ?_, ?_, ?_, (effect_keeps_halted · _), effect_fault_cfg _ _ s⟩
  · intro hrts hl
    rw [hrts]
    exact effect_rts_keeps_pc hl _
  · rintro (hm | hacc)
    · exact effect_keeps_mem hm _
    · exact effect_keeps_mem_of_acc (Instr.mnemonic_of_form_acc hacc) hacc
  · intro hjsr hl
    rw [hjsr]
    exact effect_jsr_keeps_mem hl _

end Sys2Proof.Machine
end

section
/-! A push undone by the next pull (R212, R213), the flag and system instructions (R214 to R223), and the return from interrupt
(R224). -/
namespace Sys2Proof.Machine
open Sys2Proof.Claims

/-! ## A pull after a push, with A or the flags overwritten in between -/

theorem State.pullA_push_setA (s : State) (v a : Byte) :
    ((s.push v).setA a).pullA = loadA v ((s.push v).setSp s.sp) := by
  have hpull : ((s.push v).setA a).pullA = loadA (s.push v).pull.1 (s.push v).pull.2 := rfl
  rw [hpull, State.pull_push]

theorem State.pullFlags_push_setFlags (s : State) (v : Byte) (p : Flags) :
    ((s.push v).setFlags p).pullFlags = ((s.push v).setSp s.sp).setFlags (Flags.ofPulled v) := by
  have hpull : ((s.push v).setFlags p).pullFlags =
      (s.push v).pull.2.setFlags (Flags.ofPulled (s.push v).pull.1) := rfl
  rw [hpull, State.pull_push]

/-- Settles O56: each pull sees the byte just pushed, and the overwritten A or flags are not read; of the flags only B does not
survive the status byte. -/
theorem pushThenPullRestores : Obligations.PushThenPullRestores := by
  intro s a p
  constructor
  · refine ⟨s.push s.a, loadA s.a ((s.push s.a).setSp s.sp), exec_eq_effect .pha s, ?_, rfl, rfl, ?_⟩
    · rw [← State.pullA_push_setA s s.a a]
      exact exec_eq_effect .pla _
    · rw [withZN_eq_setZN]
      rfl
  · refine ⟨s.push s.p.pushed, ((s.push s.p.pushed).setSp s.sp).setFlags { s.p with b := false },
      exec_eq_effect .php s, ?_, rfl, rfl, Flags.toByte_bit5 _⟩
    rw [← Flags.ofPulled_pushed, ← State.pullFlags_push_setFlags s s.p.pushed p]
    exact exec_eq_effect .plp _

/-! ## Flags, NOP and BRK -/

/-- Settles O57: the effect of each of the seven mnemonics is the write of its flag. -/
theorem flagInstructionsWriteOneFlag : Obligations.FlagInstructionsWriteOneFlag := fun s =>
  ⟨exec_eq_effect .clc s, exec_eq_effect .sec s, exec_eq_effect .cld s, exec_eq_effect .sed s, exec_eq_effect .cli s,
    exec_eq_effect .sei s, exec_eq_effect .clv s⟩

/-- Settles O58: NOP's effect is the identity, BRK's the write of B and the halt. -/
theorem nopAndBrk : Obligations.NopAndBrk := fun s => ⟨exec_eq_effect .nop s, exec_eq_effect .brk s⟩

/-! ## Return from interrupt -/

theorem add_three_eq_ofNat (sp : Byte) : sp + 1 + 1 + 1 = BitVec.ofNat 8 ((sp.toNat + 3) % 256) := by
  bv_omega

theorem stackAddr_add_three (sp : Byte) : stackAddr (sp + 1 + 1 + 1) = addr (256 + (sp.toNat + 3) % 256) := by
  rw [stackAddr_eq_addr, add_three_eq_ofNat, BitVec.toNat_ofNat, Nat.mod_mod]

/-- RTI's effect: three pulls in a row, the status first, and no register but SP, P and PC written. -/
theorem State.returnFromInterrupt_eq (s : State) :
    s.returnFromInterrupt = { s with
      sp := s.sp + 1 + 1 + 1
      pc := mkWord (s.readByte (stackAddr (s.sp + 1 + 1 + 1))) (s.readByte (stackAddr (s.sp + 1 + 1)))
      p := Flags.ofPulled (s.readByte (stackAddr (s.sp + 1))) } := rfl

/-- Settles O59: the three pulled bytes lie where the statement computes them, and PC is their word as it stands. -/
theorem rtiRestoresStatusAndPc : Obligations.RtiRestoresStatusAndPc := by
  intro s v lo hi
  have hrti : exec .rti s = .next s.returnFromInterrupt := exec_eq_effect .rti s
  rw [hrti, State.returnFromInterrupt_eq, stackAddr_add_three, stackAddr_add_two, stackAddr_add_one, add_three_eq_ofNat]
  rfl

end Sys2Proof.Machine
end

section
/-! The invariant along a step (R231, R232, R241) and along the host's actions (R245). -/
namespace Sys2Proof.Machine

/-! ## What the invariant says of a running core -/

section
variable {s : State}

theorem State.Inv.fault_of_running (hinv : s.Inv) (hh : s.halted = false) : s.fault = none := by
  obtain ⟨-, hrecord, -⟩ := hinv
  simpa [hh] using hrecord

theorem State.Inv.b_of_running (hinv : s.Inv) (hh : s.halted = false) : s.p.b = false := by
  obtain ⟨-, -, hbreak⟩ := hinv
  simpa [hh] using hbreak

end

/-! ## Memory stays canonical, because a step only makes the writes of its access list -/

theorem BusEvent.apply_wf {m : Memory} (e : BusEvent) (h : m.wf = true) : (e.apply m).wf = true := by
  cases e with
  | read a v => exact h
  | write a v => exact Memory.wf_write a v h

theorem foldl_apply_wf {m : Memory} (events : List BusEvent) (h : m.wf = true) :
    (events.foldl BusEvent.apply m).wf = true := by
  induction events generalizing m with
  | nil => exact h
  | cons e rest ih => exact ih (e.apply_wf h)

theorem step_wf {s t : State} (h : step s = .next t) (hwf : s.mem.wf = true) : t.mem.wf = true := by
  obtain ⟨hmem, -⟩ := stepTraceIsTheMemoryEffect s t h
  rw [hmem]
  exact foldl_apply_wf s.stepTrace hwf

/-! ## The record and B -/

/-- BRK alone sets B: the other two writers of it, PLP and RTI, clear it (R123). -/
theorem effect_keeps_b_cleared {m : Mnemonic} (hm : m ≠ .BRK) (o : Operand) {s : State} (hb : s.p.b = false) :
    (effect m o s).p.b = false := by
  by_cases hpull : m = .PLP ∨ m = .RTI
  · obtain rfl | rfl := hpull <;> rfl
  · have hwriter : m ∉ [Mnemonic.BRK, .PLP, .RTI] := by simpa [hm] using hpull
    rw [effect_keeps_b hwriter, hb]

theorem inv_of_fault_none {t : State} (hmem : t.mem.wf = true) (hfault : t.fault = none)
    (hbreak : t.p.b = true → t.halted = true) : t.Inv :=
  ⟨hmem, fun hrecord => absurd hfault hrecord, fun hb => ⟨hbreak hb, hfault⟩⟩

/-- Settles O18: a halted step keeps the state, an unknown byte halts with B clear, and an instruction leaves no record and
sets B only where it is BRK. -/
theorem invariantKeptByEveryStep : Obligations.InvariantKeptByEveryStep := by
  intro s t hinv h
  have hmem : t.mem.wf = true := step_wf h hinv.1
  obtain ⟨-, rfl⟩ | ⟨hh, -, rfl⟩ | ⟨hh, i, s1, hf, he⟩ := step_cases h
  · exact hinv
  · have hb : s.p.b = false := hinv.b_of_running hh
    exact ⟨hmem, fun _ => rfl, fun hset => absurd hset (by simp [hb])⟩
  · have hs1 := State.fetchInstr_decoded hf
    have hfault : s1.fault = none := by rw [hs1, State.setPc_fault, hinv.fault_of_running hh]
    have hb : s1.p.b = false := by rw [hs1, State.setPc_p, hinv.b_of_running hh]
    obtain rfl := eq_effect_of_exec he
    refine inv_of_fault_none hmem ((effect_fault_cfg _ _ s1).1.trans hfault) fun hset => ?_
    by_cases hm : i.mnemonic = .BRK
    · rw [hm]
      rfl
    · simp [effect_keeps_b_cleared hm i.operand hb] at hset

/-! ## The host's actions -/

theorem State.boot_inv {s : State} (image : List Byte) (start : Word) (hmem : s.mem.wf = true) :
    (s.boot image start).Inv :=
  State.applyReset_inv (s := { s with mem := (s.mem.loadProgram image start).setResetVector start })
    (State.boot_wf image start hmem)

theorem hostAct_inv (a : HostAction) {s : State} (hinv : s.Inv) : ∃ t, hostAct s a = .next t ∧ t.Inv := by
  cases a with
  | boot image start => exact ⟨_, rfl, State.boot_inv image start hinv.1⟩
  | reset => exact ⟨_, rfl, State.applyReset_inv hinv.1⟩
  | step =>
    obtain ⟨t, ht⟩ := step_completes s
    exact ⟨t, ht, invariantKeptByEveryStep s t hinv ht⟩

theorem hostActs_cons {s t : State} {a : HostAction} (h : hostAct s a = .next t) (rest : List HostAction) :
    hostActs s (a :: rest) = hostActs t rest := by
  simp only [hostActs, h]

theorem hostActs_inv (acts : List HostAction) {s : State} (hinv : s.Inv) : ∃ t, hostActs s acts = .next t ∧ t.Inv := by
  induction acts generalizing s with
  | nil => exact ⟨s, rfl, hinv⟩
  | cons a rest ih =>
    obtain ⟨t, hact, ht⟩ := hostAct_inv a hinv
    rw [hostActs_cons hact]
    exact ih ht

/-- Settles O4: each action of the list keeps the invariant, and reset and boot establish it. -/
theorem hostActionsKeepInvariant : Obligations.HostActionsKeepInvariant :=
  ⟨fun acts _ => hostActs_inv acts, fun _ image start hmem =>
    ⟨State.applyReset_inv hmem, State.boot_inv image start hmem⟩⟩

end Sys2Proof.Machine
end

section
/-! The three halts (R231, R238) and the halted state (R31, R240). -/
namespace Sys2Proof
open Sys2Proof.Machine Sys2Proof.Claims

theorem Instr.mnemonic_eq_brk_iff (i : Instr) : i.mnemonic = .BRK ↔ i.opcode = 0x00#8 := by
  cases i <;> simp [Instr.mnemonic, Instr.opcode]

theorem Instr.mnemonic_eq_rts_iff (i : Instr) : i.mnemonic = .RTS ↔ i.opcode = 0x60#8 := by
  cases i <;> simp [Instr.mnemonic, Instr.opcode]

/-- An instruction's opcode byte has a row, so it is none of R88's list. -/
theorem Instr.opcode_not_unknown (i : Instr) : i.opcode.toNat ∉ unknownBytes := fun hmem => by
  obtain ⟨r, hl, -⟩ := lookup_opcode_makes i
  simp [lookup_of_unknown hmem] at hl

end Sys2Proof

namespace Sys2Proof.Machine
open Sys2Proof.Claims

/-! ## The step at each kind of byte that halts -/

/-- Settles O15: the lookup finds no row, so the step raises UnknownOpcode and only the opcode byte was fetched. -/
theorem stepRaisesUnknownOpcode : Obligations.StepRaisesUnknownOpcode := by
  intro s hh hmem
  have hl := lookup_of_unknown hmem
  refine ⟨step_of_unknown hh hl, ?_⟩
  rw [State.stepTrace_of_unknown hh hl]
  simp [State.fetchEvents, State.readEvent]

theorem step_of_oneByte {s : State} {i : Instr} (hh : s.halted = false) (hop : s.readByte s.pc = i.opcode)
    (hlen : i.operand.bytes = []) : step s = exec i (s.setPc (s.pc + 1)) := by
  have hbytes : s.bytesAtPc = encode i ++ [s.readByte (s.pc + 1), s.readByte (s.pc + 2)] :=
    State.bytesAtPc_eq_encode (congrArg BitVec.toNat hop) (by rw [hlen, List.nil_append])
  have hone : i.length = 1 := by rw [← length_encode, encode_eq_cons, hlen]; rfl
  rw [step_of_encode hh hbytes, hone]
  rfl

section
variable {s : State} (hh : s.halted = false)
include hh

theorem step_brk (hop : s.readByte s.pc = 0x00#8) : step s = .next (s.setPc (s.pc + 1)).breakAndHalt :=
  (step_of_oneByte (i := .brk) hh hop rfl).trans (exec_eq_effect .brk _)

theorem step_rts_halting (hop : s.readByte s.pc = 0x60#8) (hl : s.cfg.linkage = .halting) :
    step s = .next (s.setPc (s.pc + 1)).halt := by
  have hcfg : (s.setPc (s.pc + 1)).cfg.linkage = .halting := hl
  rw [step_of_oneByte (i := .rts) hh hop rfl, exec_rts, State.returnFromSubroutine_halting hcfg]

end

/-! ## No other step halts -/

theorem effect_halted_iff {m : Mnemonic} {s : State} (hh : s.halted = false) (o : Operand) :
    (effect m o s).halted = true ↔ m = .BRK ∨ (m = .RTS ∧ s.cfg.linkage = .halting) := by
  constructor
  · intro hhalted
    by_contra hother
    simp [effect_keeps_halted hother o, hh] at hhalted
  · rintro (rfl | ⟨rfl, hl⟩)
    · rfl
    · rw [effect, State.returnFromSubroutine_halting hl, State.halt_halted]

theorem step_halts_iff {s t : State} (hh : s.halted = false) (h : step s = .next t) :
    t.halted = true ↔
      (s.readByte s.pc).toNat ∈ unknownBytes ∨ s.readByte s.pc = 0x00#8 ∨
        (s.readByte s.pc = 0x60#8 ∧ s.cfg.linkage = .halting) := by
  obtain ⟨hhalted, -⟩ | ⟨-, hl, rfl⟩ | ⟨-, i, s1, hf, he⟩ := step_cases h
  · simp [hh] at hhalted
  · exact iff_of_true rfl (.inl ((lookup_eq_none_iff _).mp hl))
  · obtain ⟨hop, rfl⟩ := State.fetchInstr_spec hf
    have hrun : (s.setPc (s.pc + BitVec.ofNat 16 (encode i).length)).halted = false := hh
    rw [eq_effect_of_exec he, effect_halted_iff hrun, State.setPc_cfg, i.mnemonic_eq_brk_iff, i.mnemonic_eq_rts_iff, ← hop]
    simp [i.opcode_not_unknown]

/-! ## The cause a host reads (R238) -/

section
variable {t : State} (hh : t.halted = true)
include hh

theorem haltCause_of_record {op : Byte} {a0 : Word}
    (hfault : t.fault = some { kind := .unknownOpcode, byte := op, address := a0 }) :
    haltCause t = some (.unknownOpcode op a0) := by
  simp [haltCause, hh, hfault]

theorem haltCause_of_b_set (hfault : t.fault = none) (hb : t.p.b = true) : haltCause t = some .brk := by
  simp [haltCause, hh, hfault, hb]

theorem haltCause_of_b_clear (hfault : t.fault = none) (hb : t.p.b = false) : haltCause t = some .rts := by
  simp [haltCause, hh, hfault, hb]

end

/-- Settles O19: the byte at PC decides whether the step halts and how; before it neither a record nor B is set, so what it
writes of them tells the causes apart. -/
theorem haltsInExactlyThreeWays : Obligations.HaltsInExactlyThreeWays := by
  intro s t hinv hh h
  have hfault : s.fault = none := hinv.fault_of_running hh
  have hb : s.p.b = false := hinv.b_of_running hh
  have hnext : ∀ {u : State}, step s = .next u → t = u := fun hu => Host.Outcome.next.inj (h.symm.trans hu)
  refine ⟨step_halts_iff hh h, fun hunknown => ?_, fun hbrk => ?_, fun hrts hl => ?_⟩
  · obtain rfl := hnext (stepRaisesUnknownOpcode s hh hunknown).1
    exact ⟨haltCause_of_record rfl rfl, rfl⟩
  · obtain rfl := hnext (step_brk hh hbrk)
    exact ⟨haltCause_of_b_set rfl hfault rfl, rfl⟩
  · obtain rfl := hnext (step_rts_halting hh hrts hl)
    exact ⟨haltCause_of_b_clear rfl hfault hb, rfl⟩

/-! ## Nothing but reset leaves the halted state -/

theorem run_halted {s : State} (hh : s.halted = true) (k : Nat) : Host.Core.run Sys2Proof.core k s = .next s := by
  induction k with
  | zero => rfl
  | succ k ih => rw [run_succ (step_halted hh), ih]

/-- Settles O16: a halted step goes nowhere, so no run of them does, and reset writes the run state whatever it was. -/
theorem haltedCoreStaysHalted : Obligations.HaltedCoreStaysHalted := fun _ hh =>
  ⟨run_halted hh, State.stepTrace_of_halted hh, rfl⟩

end Sys2Proof.Machine
end

section
/-! A table word placed at PC (R245, log entry 7): the next fetch reads its bytes back, also where they run past 0xFFFF. -/
namespace Sys2Proof
open Sys2Proof.Machine

theorem decode_of_decodeTableWord {nbits w : Nat} {i : Instr} (h : decodeTableWord nbits w = some i) :
    ∃ rest, decode (tableBytes nbits w) = .ok (i, rest) := by
  unfold decodeTableWord at h
  split at h
  · next j rest hd =>
    cases h
    exact ⟨rest, hd⟩
  · cases h

end Sys2Proof

namespace Sys2Proof.Machine

theorem State.placeBytes_bytesAtPc (s : State) (b0 b1 b2 : Byte) :
    (s.placeBytes [b0, b1, b2] s.pc).bytesAtPc = [b0, b1, b2] := by
  have hsucc : s.pc + 1#16 + 1#16 = s.pc + 2#16 := by bv_omega
  have h01 : s.pc ≠ s.pc + 1#16 := self_ne_succ s.pc
  have h02 : s.pc ≠ s.pc + 2#16 := by bv_omega
  have h12 : s.pc + 1#16 ≠ s.pc + 2#16 := by bv_omega
  simp [State.bytesAtPc, State.placeBytes, State.readByte, Memory.loadProgram, Memory.read_write, hsucc, h01, h02, h12]

theorem State.withFetchWord_bytesAtPc (s : State) (nbits w : Nat) :
    (s.withFetchWord nbits w).bytesAtPc = tableBytes nbits w :=
  s.placeBytes_bytesAtPc _ _ _

/-- Settles O14: the bytes at PC are the word's, so the fetch finds the instruction they decode to. -/
theorem placedWordIsTheNextInstruction : Obligations.PlacedWordIsTheNextInstruction := by
  intro s nbits w i h
  obtain ⟨rest, hd⟩ := decode_of_decodeTableWord h
  rw [← s.withFetchWord_bytesAtPc] at hd
  exact ⟨rfl, step_of_fetch rfl (State.fetchInstr_of_decode hd)⟩

end Sys2Proof.Machine
end

section
/-! Reset and boot (R260 to R262, R264): what reset leaves of any state, and where boot puts the image and the vector. -/
namespace Sys2Proof.Machine
open Sys2Proof.Claims

/-! ## Reset takes PC from the vector and keeps memory and the parameters -/

@[simp] theorem State.applyReset_pc (s : State) : s.applyReset.pc = s.readWord resetVector := rfl
@[simp] theorem State.applyReset_halted (s : State) : s.applyReset.halted = false := rfl
@[simp] theorem State.applyReset_fault (s : State) : s.applyReset.fault = none := rfl
@[simp] theorem State.applyReset_mem (s : State) : s.applyReset.mem = s.mem := rfl

/-- The registers of a reset core and its flags (R261). -/
theorem State.applyReset_fields (s : State) :
    s.applyReset.a = 0x00#8 ∧ s.applyReset.x = 0x00#8 ∧ s.applyReset.y = 0x00#8 ∧ s.applyReset.sp = 0xFD#8 ∧
    s.applyReset.p = Flags.cleared := ⟨rfl, rfl, rfl, rfl, rfl⟩

/-- The second address of the vector (R61). -/
theorem resetVector_succ : resetVector + 1 = 0xFFFD#16 := rfl

/-- Settles O1: PC is the word of the two bytes at the vector, which are the two reads; the rest are constants or kept. -/
theorem resetLeavesTheStatedValues : Obligations.ResetLeavesTheStatedValues := by
  intro s
  obtain ⟨ha, hx, hy, hsp, hp⟩ := s.applyReset_fields
  have hpc : s.applyReset.pc.toNat = (s.readByte 0xFFFC#16).toNat + 256 * (s.readByte 0xFFFD#16).toNat :=
    s.mem.toNat_read16 resetVector
  have htrace : s.resetTrace = [.read 0xFFFC#16 (s.readByte 0xFFFC#16), .read 0xFFFD#16 (s.readByte 0xFFFD#16)] := by
    rw [State.resetTrace, resetVector_succ]
    rfl
  exact ⟨ha, hx, hy, hsp, hpc, hp, s.applyReset_halted, s.applyReset_fault, s.applyReset_mem, htrace⟩

/-! ## Boot writes the image, then the vector -/

theorem Memory.read16_setResetVector (m : Memory) (entry : Word) :
    (m.setResetVector entry).read16 resetVector = entry :=
  m.read16_write16 resetVector entry

theorem Memory.read_setResetVector_other (m : Memory) (entry : Word) {a : Word}
    (h : a.toNat < 0xFFFC ∨ 0xFFFD < a.toNat) : (m.setResetVector entry).read a = m.read a := by
  refine m.read_write16_other entry ?_ ?_
  · rintro rfl
    simp [resetVector] at h
  · rw [resetVector_succ]
    rintro rfl
    simp at h

theorem toNat_addr {n : Nat} (h : n < 65536) : (addr n).toNat = n :=
  Nat.mod_eq_of_lt h

/-- Outside the vector, boot leaves what the load of the image left. -/
theorem State.boot_readByte (s : State) (image : List Byte) (start : Word) {a : Word}
    (h : a.toNat < 0xFFFC ∨ 0xFFFD < a.toNat) :
    (s.boot image start).readByte a = (s.mem.loadProgram image start).read a :=
  Memory.read_setResetVector_other _ start h

theorem State.boot_readWord_resetVector (s : State) (image : List Byte) (start : Word) :
    (s.boot image start).readWord resetVector = start :=
  Memory.read16_setResetVector _ start

theorem State.boot_pc (s : State) (image : List Byte) (start : Word) : (s.boot image start).pc = start :=
  s.boot_readWord_resetVector image start

/-- An image that ends below the vector is not overwritten by the write of the vector. -/
theorem State.boot_readByte_image (s : State) {image : List Byte} {start : Word}
    (hend : start.toNat + image.length ≤ 0xFFFC) {k : Nat} (hk : k < image.length) :
    (s.boot image start).readByte (addr (start.toNat + k)) = image[k] := by
  have hbelow : (addr (start.toNat + k)).toNat < 0xFFFC := by
    rw [toNat_addr (by omega)]
    omega
  rw [s.boot_readByte image start (.inl hbelow), ← add_ofNat_eq_addr]
  exact Memory.read_loadProgram image s.mem start (by omega) k hk

theorem State.boot_readByte_other (s : State) {image : List Byte} {start a : Word}
    (hvector : a.toNat < 0xFFFC ∨ 0xFFFD < a.toNat)
    (himage : ∀ k, k < image.length → a ≠ addr (start.toNat + k)) :
    (s.boot image start).readByte a = s.readByte a := by
  rw [s.boot_readByte image start hvector]
  refine Memory.read_loadProgram_other image s.mem start a fun k hk => ?_
  rw [add_ofNat_eq_addr]
  exact himage k hk

/-- Settles O3: the image lies below the vector, so neither write touches the other's bytes; reset then reads the vector. -/
theorem bootStartsAtTheLoadAddress : Obligations.BootStartsAtTheLoadAddress := fun s image start hend =>
  ⟨s.boot_pc image start, fun _ hk => s.boot_readByte_image hend hk, s.boot_readWord_resetVector image start,
    fun _ hvector himage => s.boot_readByte_other hvector himage, rfl, rfl, rfl⟩

end Sys2Proof.Machine
end
